-- ==== Sys2Proof/Word.lean ====
section
/-! DEFINITION. The widths of the block's ports and of the words around it (00_scope.md R9). -/

namespace Sys2Proof

/-- The input port: a 7-bit unsigned value (10_state.md R20). -/
abbrev Opcode := BitVec 7

/-- The instruction word the opcode is cut from (00_scope.md R9, INSTR_WIDTH). -/
abbrev InstrWord := BitVec 32

/-- One packed entry of the decode ROM (00_scope.md R9; 30_encoding.md R57). -/
abbrev RomWord := BitVec 14

/-- One byte of a fetched instruction word, for the byte-level decoder (20_memory.md R40). -/
abbrev Byte := BitVec 8

end Sys2Proof
end

