-- ==== Sys2Proof/Config.lean ====
section
/-! DEFINITION. What is fixed for the machine (00_scope.md R9), the named open parameters of the units
around the block (92_eei_decisions.md D8, D12), and the one free value. -/

namespace Sys2Proof

/-- OPCODE_WIDTH (00_scope.md R9). -/
abbrev Config.opcodeWidth : Nat := 7

/-- INSTR_WIDTH (00_scope.md R9). -/
abbrev Config.instrWidth : Nat := 32

/-- ROM_ENTRIES: every 7-bit value (00_scope.md R9). -/
abbrev Config.romEntries : Nat := 128

/-- DEFAULT_ENTRIES: the opcodes that are no key (00_scope.md R9, 90_conflicts.md C3). -/
abbrev Config.defaultEntries : Nat := 117

/-- INSTR_BYTE_ORDER, an open parameter of a fetch stage (20_memory.md R40, D8).
PRESUMED (log 8): that a byte order is one of these two. -/
inductive ByteOrder where
  /-- the byte at the lowest address holds bits [7:0] -/
  | littleEndian
  /-- the byte at the lowest address holds bits [31:24] -/
  | bigEndian
deriving DecidableEq, Repr

/-- ON_INVALID, the caller's policy on validInstr = 0, with the three values the source names
(60_exceptions.md R95, D12). -/
inductive OnInvalid where
  | trap
  | noOp
  | halt
deriving DecidableEq, Repr

/-- FREE VALUE (log 4): the word the upstream stage presents in fetch cycle `n` when the model was given
none. The spec does not say what is on the input then (70_reset_and_hazards.md R103). One function for every copy of the
block: see log 17 for what that settles. -/
opaque Config.upstreamWord : Nat → InstrWord

end Sys2Proof
end

