-- ==== Sys2Proof/Syntax.lean ====
section
/-! DEFINITION. The rows of the decision table (`Instr`) and the bundle of ten outputs each row drives
(`ControlSignals`). -/

namespace Sys2Proof

/-- The eleven rows of the decision table that have a key of their own, in the table's order
(30_encoding.md R51). A row has no operand: the block reads opcode[6:0] and nothing else
(40_decode_rows.md, "Operands" of R62 to R72). -/
inductive Instr where
  /-- R_TYPE, "R-type (reg-reg ALU)" (40_decode_rows.md R62) -/
  | rType
  /-- I_TYPE, "I-type (reg-imm ALU)" (R63) -/
  | iType
  /-- LOAD (R64) -/
  | load
  /-- STORE (R65) -/
  | store
  /-- BRANCH (R66) -/
  | branch
  /-- LUI (R67) -/
  | lui
  /-- AUIPC (R68) -/
  | auipc
  /-- JAL (R69) -/
  | jal
  /-- JALR (R70) -/
  | jalr
  /-- CSR_SYSTEM (R71) -/
  | csrSystem
  /-- FENCE (R72) -/
  | fence
deriving DecidableEq, Repr

/-- `toReg`, domain 0 to 4 (10_state.md R25): which value would be written back. Codes 5 to 7 are outside
the domain and have no constructor (R33, D6). -/
inductive ToReg where
  /-- code 0 -/
  | aluResult
  /-- code 1 -/
  | memoryData
  /-- code 2 -/
  | pcPlus4
  /-- code 3 -/
  | csrResult
  /-- code 4, "none (no write)" -/
  | noWrite
deriving DecidableEq, Repr

/-- `aluSrc1`, domain 0 to 2 (10_state.md R30): the first ALU operand. Code 3 is outside the domain and has
no constructor (R33, D6). -/
inductive AluSrc1 where
  /-- code 0, register read-data-1 -/
  | readData1
  /-- code 1, constant zero -/
  | constantZero
  /-- code 2, program counter -/
  | programCounter
deriving DecidableEq, Repr

/-- `jump`, domain 0 to 3 (10_state.md R31): the unconditional PC-update mode. The source asks that the
4-valued domain be kept although no row drives code 1. -/
inductive Jump where
  /-- code 0 -/
  | noJump
  /-- code 1, reserved, never driven -/
  | reserved
  /-- code 2 -/
  | jal
  /-- code 3 -/
  | jalr
deriving DecidableEq, Repr

/-- The ten outputs, in the tuple order of 00_scope.md R12. -/
structure ControlSignals where
  /-- "opcode recognized" (10_state.md R22) -/
  validInstr : Bool
  /-- "conditional PC update on comparison result" (R23) -/
  branch : Bool
  /-- "load from data memory" (R24) -/
  memRead : Bool
  /-- write-back source selector (R25) -/
  toReg : ToReg
  /-- "ALU forced to perform addition" (R26) -/
  add : Bool
  /-- "store to data memory" (R27) -/
  memWrite : Bool
  /-- "second ALU operand comes from decoded immediate, not register" (R28) -/
  immediate : Bool
  /-- "destination register is written" (R29) -/
  regWrite : Bool
  /-- first ALU operand selector (R30) -/
  aluSrc1 : AluSrc1
  /-- unconditional PC-update mode (R31) -/
  jump : Jump
deriving DecidableEq, Repr

end Sys2Proof
end

