-- ==== Sys2Proof/WellFormed.lean ====
section
/-! DEFINITION. The checks of the model's boundary. An `Instr` has no operand, so every term of it is well
formed; what can be ill formed is a number offered as an input (00_scope.md R7, D7), an output bundle with the
reserved jump code (10_state.md R33), and a 14-bit word whose fields leave the domains (30_encoding.md R59). -/

namespace Sys2Proof

/-- A number is a value of the 7-bit input port (D7: a wider integer is refused, never masked). -/
def opcodeFits (n : Nat) : Bool := decide (n < 2 ^ Config.opcodeWidth)

/-- A number is a 32-bit instruction word (D7). -/
def wordFits (n : Nat) : Bool := decide (n < 2 ^ Config.instrWidth)

/-- A bundle the block can drive holds no reserved code (10_state.md R31, R33). The codes outside the
source's domains have no constructor. -/
def ControlSignals.wellFormed (c : ControlSignals) : Bool := decide (c.jump ≠ .reserved)

/-- A packed word whose selector fields lie in the source's domains and whose jump code is not the reserved
one (30_encoding.md R57, R59). -/
def romWordWellFormed (p : RomWord) : Bool :=
  decide (p.extractLsb' 8 3 ≤ 4#3) && decide (p.extractLsb' 2 2 ≤ 2#2) && decide (p.extractLsb' 0 2 ≠ 1#2)

end Sys2Proof
end

