-- ==== Sys2Proof/Decode.lean ====
section
/-! DEFINITION. From an opcode, an instruction word, a number or bytes to a row of the table, and back: total,
rejecting by name. -/

namespace Sys2Proof

/-- Why a decoder gives no row. A rejection is no error of the block: the block drives its default row for an
unrecognised opcode (30_encoding.md R53; `Sys2Proof.Machine.execDefault`). -/
inductive DecodeReject where
  /-- the opcode is none of the eleven keys: the "single error class" of 60_exceptions.md R94 -/
  | unrecognizedOpcode (op : Opcode)
  /-- a number wider than the 7-bit port or the 32-bit word (00_scope.md R7, D7) -/
  | tooWide (n : Nat)
  /-- fewer than the four bytes of an instruction word (00_scope.md R9, INSTR_WIDTH) -/
  | truncated (bytes : List Byte)
deriving DecidableEq, Repr

/-- OPCODE_FIELD: bits [6:0] of the instruction word (00_scope.md R9, 30_encoding.md R49). -/
def opcodeField (w : InstrWord) : Opcode := w.extractLsb' 0 7

/-- The keys, in the table's order (30_encoding.md R51). -/
def keyTable : List (Opcode × Instr) :=
  [(0b0110011#7, .rType), (0b0010011#7, .iType), (0b0000011#7, .load), (0b0100011#7, .store)] ++
  [(0b1100011#7, .branch), (0b0110111#7, .lui), (0b0010111#7, .auipc), (0b1101111#7, .jal)] ++
  [(0b1100111#7, .jalr), (0b1110011#7, .csrSystem), (0b0001111#7, .fence)]

/-- "exact equality match of the full 7-bit value against each table key" (30_encoding.md R50). -/
def matchKey (op : Opcode) : List (Opcode × Instr) → Option Instr
  | [] => none
  | (key, i) :: rest => if op = key then some i else matchKey op rest

/-- The row whose key the opcode is, if it is a key. -/
def decodeOpcode (op : Opcode) : Option Instr := matchKey op keyTable

/-- The row an instruction word selects by its bits [6:0]; bits [31:7] take no part (30_encoding.md R49, R50). -/
def decodeWord (w : InstrWord) : Except DecodeReject Instr :=
  match decodeOpcode (opcodeField w) with
  | some i => .ok i
  | none => .error (.unrecognizedOpcode (opcodeField w))

/-- A number offered to the input port: refused when wider than the port, never masked (D7). -/
def opcodeOfNat (n : Nat) : Except DecodeReject Opcode :=
  if opcodeFits n then .ok (BitVec.ofNat 7 n) else .error (.tooWide n)

/-- A number offered as an instruction word: refused when wider than 32 bits, never masked (D7). -/
def decodeNat (n : Nat) : Except DecodeReject Instr :=
  if wordFits n then decodeWord (BitVec.ofNat 32 n) else .error (.tooWide n)

/-- The instruction word four bytes hold, lowest address first, under a fetch stage's byte order
(20_memory.md R40: the open parameter INSTR_BYTE_ORDER). -/
def wordOfBytes : ByteOrder → Byte → Byte → Byte → Byte → InstrWord
  | .littleEndian, b0, b1, b2, b3 => b3 ++ b2 ++ b1 ++ b0
  | .bigEndian, b0, b1, b2, b3 => b0 ++ b1 ++ b2 ++ b3

/-- The row the first instruction word of a list of bytes selects, and the bytes after it. There is one
instruction length, the 32-bit word (30_encoding.md R49, R54). -/
def decodeBytes (o : ByteOrder) : List Byte → Except DecodeReject (Instr × List Byte)
  | b0 :: b1 :: b2 :: b3 :: rest =>
    match decodeWord (wordOfBytes o b0 b1 b2 b3) with
    | .ok i => .ok (i, rest)
    | .error e => .error e
  | short => .error (.truncated short)

/-- The key of each row, from each row's own "Encoding" line (40_decode_rows.md R62 to R72). -/
def Instr.key : Instr → Opcode
  | .rType => 0b0110011
  | .iType => 0b0010011
  | .load => 0b0000011
  | .store => 0b0100011
  | .branch => 0b1100011
  | .lui => 0b0110111
  | .auipc => 0b0010111
  | .jal => 0b1101111
  | .jalr => 0b1100111
  | .csrSystem => 0b1110011
  | .fence => 0b0001111

/-- The instruction-word match of each row (40_decode_rows.md R62 to R72, "instruction-word match"). The bits
the block does not read are zero (DESIGN CHOICE, log 7). -/
def encode : Instr → InstrWord
  | .rType => 0x00000033
  | .iType => 0x00000013
  | .load => 0x00000003
  | .store => 0x00000023
  | .branch => 0x00000063
  | .lui => 0x00000037
  | .auipc => 0x00000017
  | .jal => 0x0000006F
  | .jalr => 0x00000067
  | .csrSystem => 0x00000073
  | .fence => 0x0000000F

/-- The instruction-word mask, the same for every row (30_encoding.md R51). -/
def matchMask : InstrWord := 0x0000007F

/-- The four bytes of a word, lowest address first, under a fetch stage's byte order. -/
def bytesOfWord (w : InstrWord) : ByteOrder → List Byte
  | .littleEndian => [w.extractLsb' 0 8, w.extractLsb' 8 8, w.extractLsb' 16 8, w.extractLsb' 24 8]
  | .bigEndian => [w.extractLsb' 24 8, w.extractLsb' 16 8, w.extractLsb' 8 8, w.extractLsb' 0 8]

/-- The bytes of a row's instruction word. -/
def encodeBytes (o : ByteOrder) (i : Instr) : List Byte := bytesOfWord (encode i) o

/-- The row read from an instruction whose bits are `w`, numbered from bit 0 of its one 32-bit word; no row
where `w` does not fit the bits it is said to have, or the word. -/
def decodeTableWord (nbits w : Nat) : Option Instr :=
  if w < 2 ^ min nbits Config.instrWidth then (decodeNat w).toOption else none

end Sys2Proof
end

