-- ==== Sys2Proof/Machine/Rows.lean ====
section
/-! DEFINITION. The twelve rows of the decision table, field by field, and the block's whole function from an
opcode to its outputs (40_decode_rows.md). -/

namespace Sys2Proof.Machine

/-- R_TYPE (40_decode_rows.md R62). -/
def rTypeRow : ControlSignals :=
  { validInstr := true, branch := false, memRead := false, toReg := .aluResult, add := false,
    memWrite := false, immediate := false, regWrite := true, aluSrc1 := .readData1, jump := .noJump }

/-- I_TYPE (R63). -/
def iTypeRow : ControlSignals :=
  { validInstr := true, branch := false, memRead := false, toReg := .aluResult, add := false,
    memWrite := false, immediate := true, regWrite := true, aluSrc1 := .readData1, jump := .noJump }

/-- LOAD (R64). -/
def loadRow : ControlSignals :=
  { validInstr := true, branch := false, memRead := true, toReg := .memoryData, add := true,
    memWrite := false, immediate := true, regWrite := true, aluSrc1 := .readData1, jump := .noJump }

/-- STORE (R65). -/
def storeRow : ControlSignals :=
  { validInstr := true, branch := false, memRead := false, toReg := .aluResult, add := true,
    memWrite := true, immediate := true, regWrite := false, aluSrc1 := .readData1, jump := .noJump }

/-- BRANCH (R66). -/
def branchRow : ControlSignals :=
  { validInstr := true, branch := true, memRead := false, toReg := .aluResult, add := false,
    memWrite := false, immediate := false, regWrite := false, aluSrc1 := .readData1, jump := .noJump }

/-- LUI (R67; the design note against aluSrc1 = 1 loses to the table, 90_conflicts.md C1). -/
def luiRow : ControlSignals :=
  { validInstr := true, branch := false, memRead := false, toReg := .aluResult, add := true,
    memWrite := false, immediate := true, regWrite := true, aluSrc1 := .constantZero, jump := .noJump }

/-- AUIPC (R68). -/
def auipcRow : ControlSignals :=
  { validInstr := true, branch := false, memRead := false, toReg := .aluResult, add := true,
    memWrite := false, immediate := true, regWrite := true, aluSrc1 := .programCounter, jump := .noJump }

/-- JAL (R69). -/
def jalRow : ControlSignals :=
  { validInstr := true, branch := false, memRead := false, toReg := .pcPlus4, add := false,
    memWrite := false, immediate := false, regWrite := true, aluSrc1 := .constantZero, jump := .jal }

/-- JALR (R70). -/
def jalrRow : ControlSignals :=
  { validInstr := true, branch := false, memRead := false, toReg := .pcPlus4, add := false,
    memWrite := false, immediate := true, regWrite := true, aluSrc1 := .readData1, jump := .jalr }

/-- CSR_SYSTEM (R71): the CSR result is selected and the write port is not enabled, verbatim (90_conflicts.md
C6). -/
def csrSystemRow : ControlSignals :=
  { validInstr := true, branch := false, memRead := false, toReg := .csrResult, add := false,
    memWrite := false, immediate := false, regWrite := false, aluSrc1 := .readData1, jump := .noJump }

/-- FENCE (R72). -/
def fenceRow : ControlSignals :=
  { validInstr := true, branch := false, memRead := false, toReg := .noWrite, add := false,
    memWrite := false, immediate := false, regWrite := false, aluSrc1 := .readData1, jump := .noJump }

/-- DEFAULT, every other opcode (R73): inert, and not all zero, since toReg = 4 (90_conflicts.md C4). -/
def defaultRow : ControlSignals :=
  { validInstr := false, branch := false, memRead := false, toReg := .noWrite, add := false,
    memWrite := false, immediate := false, regWrite := false, aluSrc1 := .readData1, jump := .noJump }

/-- The row of each class. -/
def rowOf : Instr → ControlSignals
  | .rType => rTypeRow
  | .iType => iTypeRow
  | .load => loadRow
  | .store => storeRow
  | .branch => branchRow
  | .lui => luiRow
  | .auipc => auipcRow
  | .jal => jalRow
  | .jalr => jalrRow
  | .csrSystem => csrSystemRow
  | .fence => fenceRow

/-- The block's whole function, `decode` in the spec (R61): the row of the matching key, else the default. -/
def controlSignals (op : Opcode) : ControlSignals :=
  match decodeOpcode op with
  | some i => rowOf i
  | none => defaultRow

end Sys2Proof.Machine
end

