-- ==== Sys2Proof/Machine/State.lean ====
section
/-! DEFINITION. The state of the model (the block's ports and the words the upstream stage will present), the
reasons a step could stop, and the state after reset. -/

namespace Sys2Proof.Machine

/-- The block holds no state (10_state.md R14); what the model holds is its ports and its surroundings' next
inputs. -/
structure State where
  /-- the input port (10_state.md R20) -/
  opcode : Opcode
  /-- the ten output ports (10_state.md R21 to R31) -/
  out : ControlSignals
  /-- the MODEL's own (log 3): the instruction words the upstream stage will present, the next one first -/
  upcoming : List InstrWord
  /-- the MODEL's own (log 3): how many fetch cycles have passed; it numbers the free words (log 4) -/
  cycle : Nat
deriving DecidableEq, Repr

/-- The block "raises no exception, fault or trap of any kind, for any input" (60_exceptions.md R93), so there
is no reason to fault: nobody raises one. Safe: no behaviour of the block is cut off (log 15). -/
inductive Fault where
deriving DecidableEq, Repr

/-- Reasons for which the model gives no meaning. -/
inductive Refusal where
  /-- raised by exec's arm of an instruction with no meaning yet; every arm has its meaning, so nobody raises
  it. Safe: a refusal ends a run and claims nothing. -/
  | notModelled (mnemonic : String)
deriving DecidableEq, Repr

/-- After reset. The block has no reset state: its outputs are `decode` of the opcode on its input, then as
always (70_reset_and_hazards.md R102). DESIGN CHOICE (log 1): that opcode, which the spec leaves open (R103), is
0b0000000. DESIGN CHOICE (log 3): no word is waiting and no cycle has passed. -/
def State.reset : State :=
  { opcode := 0b0000000, out := controlSignals 0b0000000, upcoming := [], cycle := 0 }

end Sys2Proof.Machine
end

