-- ==== Sys2Proof/Machine/Ops.lean ====
section
/-! DEFINITION. The two named operations over the ports: the upstream stage presents a word, the block drives
its outputs. There is no third: the block reads no register and no memory (10_state.md R15, 20_memory.md R38),
and it takes no exception and returns from none (60_exceptions.md R93, R98, R99), so there is no operation for
either. -/

namespace Sys2Proof.Machine

/-- The word the upstream stage presents next: the first of those the model was given, else the free word of
this cycle (70_reset_and_hazards.md R103; log 4). DESIGN CHOICE, unsafe (log 17): the free word is numbered by the
cycle counter alone, so two copies of the block with equal counters and no word waiting have the same word on their
inputs, which the spec does not say (20_memory.md R48, R103). -/
def State.nextWord (s : State) : InstrWord :=
  match s.upcoming with
  | w :: _ => w
  | [] => Config.upstreamWord s.cycle

/-- One instruction-fetch cycle begins: bits [6:0] of the word presented stand on the input port
(10_state.md R20; 70_reset_and_hazards.md R105). -/
def State.present (s : State) : State :=
  { s with opcode := opcodeField s.nextWord, upcoming := s.upcoming.tail, cycle := s.cycle + 1 }

/-- All ten outputs at once (00_scope.md R11, `out <- (v1, ..., v10)`; 20_memory.md R42: one whole row). -/
def State.drive (s : State) (row : ControlSignals) : State := { s with out := row }

end Sys2Proof.Machine
end

