-- ==== Sys2Proof/Machine/Alu.lean ====
section
/-! DEFINITION. The meanings of the ALU family, R_TYPE, I_TYPE, LUI and AUIPC: each drives its whole row on the
outputs and does nothing else (40_decode_rows.md). -/

namespace Sys2Proof.Machine

/-- R_TYPE (40_decode_rows.md R62). -/
def execRType (s : State) : Host.Outcome State Fault Refusal := .next (s.drive rTypeRow)

/-- I_TYPE (40_decode_rows.md R63). -/
def execIType (s : State) : Host.Outcome State Fault Refusal := .next (s.drive iTypeRow)

/-- LUI (40_decode_rows.md R67). -/
def execLui (s : State) : Host.Outcome State Fault Refusal := .next (s.drive luiRow)

/-- AUIPC (40_decode_rows.md R68). -/
def execAuipc (s : State) : Host.Outcome State Fault Refusal := .next (s.drive auipcRow)

end Sys2Proof.Machine
end

