-- ==== Sys2Proof/Machine/Control.lean ====
section
/-! DEFINITION. The meanings of the control-transfer family, BRANCH, JAL and JALR: each drives its whole row on the
outputs and does nothing else (40_decode_rows.md). -/

namespace Sys2Proof.Machine

/-- BRANCH (40_decode_rows.md R66). The comparison is outside the block
(10_state.md R17). -/
def execBranch (s : State) : Host.Outcome State Fault Refusal := .next (s.drive branchRow)

/-- JAL (40_decode_rows.md R69). -/
def execJal (s : State) : Host.Outcome State Fault Refusal := .next (s.drive jalRow)

/-- JALR (40_decode_rows.md R70). -/
def execJalr (s : State) : Host.Outcome State Fault Refusal := .next (s.drive jalrRow)

end Sys2Proof.Machine
end

