-- ==== Sys2Proof/Machine/LoadStore.lean ====
section
/-! DEFINITION. The meanings of the memory family, LOAD, STORE and FENCE: each drives its whole row on the
outputs and does nothing else (40_decode_rows.md). -/

namespace Sys2Proof.Machine

/-- LOAD (40_decode_rows.md R64). The block makes no access: memRead is a request (20_memory.md R39). -/
def execLoad (s : State) : Host.Outcome State Fault Refusal := .next (s.drive loadRow)

/-- STORE (40_decode_rows.md R65). The block makes no access: memWrite is a request (20_memory.md R39). -/
def execStore (s : State) : Host.Outcome State Fault Refusal := .next (s.drive storeRow)

/-- FENCE (40_decode_rows.md R72). The row is the whole of the
block's part in a fence (20_memory.md R45). -/
def execFence (s : State) : Host.Outcome State Fault Refusal := .next (s.drive fenceRow)

end Sys2Proof.Machine
end

