-- ==== Sys2Proof/Machine/System.lean ====
section
/-! DEFINITION. The meanings of the system family, CSR_SYSTEM, and the default row of every opcode that is no key: each drives its whole row on the
outputs and does nothing else (40_decode_rows.md). -/

namespace Sys2Proof.Machine

/-- CSR_SYSTEM (40_decode_rows.md R71). No trap is taken and no privilege
checked, whatever the instruction (41_table_laws.md R92; 60_exceptions.md R99). -/
def execCsrSystem (s : State) : Host.Outcome State Fault Refusal := .next (s.drive csrSystemRow)

/-- DEFAULT (40_decode_rows.md R73): "a deliberate fail-safe default, not an exception". It is no row of
spec/opcode_table.json, hence no constructor of `Instr`; the step takes it for every unrecognised opcode
(log 6). -/
def execDefault (s : State) : Host.Outcome State Fault Refusal := .next (s.drive defaultRow)

end Sys2Proof.Machine
end

