-- ==== Sys2Proof/Machine/Dispatch.lean ====
section
/-! DEFINITION. One arm for each row of spec/opcode_table.json. -/

namespace Sys2Proof.Machine

def exec (i : Instr) (s : State) : Host.Outcome State Fault Refusal :=
  match i with
  | .rType => Sys2Proof.Machine.execRType s
  | .iType => Sys2Proof.Machine.execIType s
  | .load => Sys2Proof.Machine.execLoad s
  | .store => Sys2Proof.Machine.execStore s
  | .branch => Sys2Proof.Machine.execBranch s
  | .lui => Sys2Proof.Machine.execLui s
  | .auipc => Sys2Proof.Machine.execAuipc s
  | .jal => Sys2Proof.Machine.execJal s
  | .jalr => Sys2Proof.Machine.execJalr s
  | .csrSystem => Sys2Proof.Machine.execCsrSystem s
  | .fence => Sys2Proof.Machine.execFence s

end Sys2Proof.Machine
end

