-- ==== Sys2Proof/Machine/Step.lean ====
section
/-! DEFINITION. One step: one instruction-fetch cycle, in which the upstream stage presents a word and the block
drives the row of its opcode (70_reset_and_hazards.md R105, R106). -/

namespace Sys2Proof.Machine

/-- The word is presented; its opcode selects a row by exact match, or the default row on a miss
(40_decode_rows.md R61: "no fault, no stall, no refusal"). -/
def step (s : State) : Host.Outcome State Fault Refusal :=
  match decodeOpcode s.present.opcode with
  | some i => exec i s.present
  | none => execDefault s.present

/-- `s` with the instruction word `w` put first among those the upstream stage presents, so that the next step
decodes it (log 5). A number that is no `nbits`-bit part of a 32-bit word is no input of the block and is
not placed (D7; log 14). -/
def State.withFetchWord (s : State) (nbits w : Nat) : State :=
  if w < 2 ^ min nbits Config.instrWidth then { s with upcoming := BitVec.ofNat 32 w :: s.upcoming } else s

end Sys2Proof.Machine
end

