-- ==== Sys2Proof/Machine/Flags.lean ====
section
/-! DEFINITION. The block has no flags and no condition codes (10_state.md R17): no instruction sets, clears or
reads one. This file holds the one-bit OUTPUTS' value on their wires and in a tuple, which is no flag. -/

namespace Sys2Proof.Machine

/-- A Boolean field on its wire: 1 = true (10_state.md R32). -/
def boolBit (b : Bool) : BitVec 1 := if b then 1 else 0

/-- A Boolean field in a tuple: 1 for true, 0 for false (00_scope.md R13). -/
def boolCode (b : Bool) : Nat := if b then 1 else 0

end Sys2Proof.Machine
end

