-- ==== Sys2Proof/Machine/Operands.lean ====
section
/-! DEFINITION. The forms of the output word: selector codes (10_state.md R25, R30, R31), the tuple
(00_scope.md R12, R13) and the packed 14-bit ROM word, both ways (30_encoding.md R57). -/

namespace Sys2Proof.Machine

/-- The code on the 3-bit toReg port (10_state.md R25, R32). -/
def toRegCode : ToReg → BitVec 3
  | .aluResult => 0
  | .memoryData => 1
  | .pcPlus4 => 2
  | .csrResult => 3
  | .noWrite => 4

/-- The code on the 2-bit aluSrc1 port (10_state.md R30, R32). -/
def aluSrc1Code : AluSrc1 → BitVec 2
  | .readData1 => 0
  | .constantZero => 1
  | .programCounter => 2

/-- The code on the 2-bit jump port (10_state.md R31, R32). -/
def jumpCode : Jump → BitVec 2
  | .noJump => 0
  | .reserved => 1
  | .jal => 2
  | .jalr => 3

/-- The selector a toReg code names; codes 5 to 7 name none (10_state.md R33, I3: refuse). -/
def toRegOfCode (c : BitVec 3) : Option ToReg :=
  if c = 0 then some .aluResult else if c = 1 then some .memoryData else if c = 2 then some .pcPlus4
  else if c = 3 then some .csrResult else if c = 4 then some .noWrite else none

/-- The selector an aluSrc1 code names; code 3 names none (10_state.md R33, I3: refuse). -/
def aluSrc1OfCode (c : BitVec 2) : Option AluSrc1 :=
  if c = 0 then some .readData1 else if c = 1 then some .constantZero
  else if c = 2 then some .programCounter else none

/-- The mode a jump code names; the domain has all four (10_state.md R31). -/
def jumpOfCode (c : BitVec 2) : Jump :=
  if c = 0 then .noJump else if c = 1 then .reserved else if c = 2 then .jal else .jalr

/-- A bundle as the 10-tuple the spec writes (00_scope.md R12, R13). -/
def tupleOf (c : ControlSignals) : List Nat :=
  [boolCode c.validInstr, boolCode c.branch, boolCode c.memRead, (toRegCode c.toReg).toNat, boolCode c.add,
   boolCode c.memWrite, boolCode c.immediate, boolCode c.regWrite, (aluSrc1Code c.aluSrc1).toNat,
   (jumpCode c.jump).toNat]

/-- A bundle as one ROM word, validInstr at bit 13 (30_encoding.md R57). -/
def pack (c : ControlSignals) : RomWord :=
  boolBit c.validInstr ++ boolBit c.branch ++ boolBit c.memRead ++ toRegCode c.toReg ++ boolBit c.add ++
  boolBit c.memWrite ++ boolBit c.immediate ++ boolBit c.regWrite ++ aluSrc1Code c.aluSrc1 ++ jumpCode c.jump

/-- The bundle a ROM word holds, none where a selector field is outside its domain (30_encoding.md R57, R59). -/
def unpack (p : RomWord) : Option ControlSignals :=
  match toRegOfCode (p.extractLsb' 8 3), aluSrc1OfCode (p.extractLsb' 2 2) with
  | some toReg, some aluSrc1 =>
    some { validInstr := p.getLsbD 13, branch := p.getLsbD 12, memRead := p.getLsbD 11, toReg := toReg,
           add := p.getLsbD 7, memWrite := p.getLsbD 6, immediate := p.getLsbD 5, regWrite := p.getLsbD 4,
           aluSrc1 := aluSrc1, jump := jumpOfCode (p.extractLsb' 0 2) }
  | _, _ => none

end Sys2Proof.Machine
end

