-- ==== Sys2Proof/Machine/Rom.lean ====
section
/-! DEFINITION. The block in its other form, a read-only memory of 128 packed entries (20_memory.md R35 to R37),
written out from the exhaustive listing of 95_test_vectors.md section 4 and not from the rows. -/

namespace Sys2Proof.Machine

/-- The contents, address 0x00 first, eight a line (30_encoding.md R58; 95_test_vectors.md section 4). A
constant: there is no write port (20_memory.md R36). -/
def romContents : List RomWord :=
  [0x0400, 0x0400, 0x0400, 0x29B0, 0x0400, 0x0400, 0x0400, 0x0400] ++
  [0x0400, 0x0400, 0x0400, 0x0400, 0x0400, 0x0400, 0x0400, 0x2400] ++
  [0x0400, 0x0400, 0x0400, 0x2030, 0x0400, 0x0400, 0x0400, 0x20B8] ++
  [0x0400, 0x0400, 0x0400, 0x0400, 0x0400, 0x0400, 0x0400, 0x0400] ++
  [0x0400, 0x0400, 0x0400, 0x20E0, 0x0400, 0x0400, 0x0400, 0x0400] ++
  [0x0400, 0x0400, 0x0400, 0x0400, 0x0400, 0x0400, 0x0400, 0x0400] ++
  [0x0400, 0x0400, 0x0400, 0x2010, 0x0400, 0x0400, 0x0400, 0x20B4] ++
  [0x0400, 0x0400, 0x0400, 0x0400, 0x0400, 0x0400, 0x0400, 0x0400] ++
  [0x0400, 0x0400, 0x0400, 0x0400, 0x0400, 0x0400, 0x0400, 0x0400] ++
  [0x0400, 0x0400, 0x0400, 0x0400, 0x0400, 0x0400, 0x0400, 0x0400] ++
  [0x0400, 0x0400, 0x0400, 0x0400, 0x0400, 0x0400, 0x0400, 0x0400] ++
  [0x0400, 0x0400, 0x0400, 0x0400, 0x0400, 0x0400, 0x0400, 0x0400] ++
  [0x0400, 0x0400, 0x0400, 0x3000, 0x0400, 0x0400, 0x0400, 0x2233] ++
  [0x0400, 0x0400, 0x0400, 0x0400, 0x0400, 0x0400, 0x0400, 0x2216] ++
  [0x0400, 0x0400, 0x0400, 0x2300, 0x0400, 0x0400, 0x0400, 0x0400] ++
  [0x0400, 0x0400, 0x0400, 0x0400, 0x0400, 0x0400, 0x0400, 0x0400]

/-- The entry at an address. All 128 addresses are populated (20_memory.md R43), so the value for an address
past the end of the list is never read. -/
def romRead (op : Opcode) : RomWord := romContents.getD op.toNat 0

end Sys2Proof.Machine
end

