-- ==== Sys2Proof/Machine/Datapath.lean ====
section
/-! DEFINITION. What a bundle of outputs asks of the units that consume it (10_state.md R22 to R31, R34;
41_table_laws.md R87 to R92). These are READINGS of the outputs in the spec's words, as plain data: no consumer is
given a behaviour, which the source does not describe (00_scope.md R8; log 11). -/

namespace Sys2Proof.Machine

/-- A value the datapath is asked for, by name or as the ALU's result on two others. -/
inductive Value where
  /-- "register read-data-1" (10_state.md R30) -/
  | readData1
  /-- "constant zero" (R30) -/
  | constantZero
  /-- "program counter" (R30) -/
  | programCounter
  /-- the register a second ALU operand comes from (R28) -/
  | registerOperand
  /-- "decoded immediate" (R28) -/
  | decodedImmediate
  /-- "memory data" (R25) -/
  | memoryData
  /-- "PC+4" (R25) -/
  | pcPlus4
  /-- "CSR result" (R25) -/
  | csrResult
  /-- the ALU "forced to perform addition" (R26) -/
  | sum (first second : Value)
  /-- the operation the ALU-control decoder chooses (R26); which one is not in the source (I10) -/
  | aluControlChoice (first second : Value)
deriving DecidableEq, Repr

/-- A request to the data-memory interface (20_memory.md R39). -/
inductive MemoryRequest where
  | load
  | store
deriving DecidableEq, Repr

/-- A request to the PC-update logic (41_table_laws.md R88). -/
inductive PcRequest where
  /-- "conditional PC update on comparison result" -/
  | conditional
  /-- the "jal" update mode -/
  | jal
  /-- the "jalr" update mode -/
  | jalr
deriving DecidableEq, Repr

/-- The first ALU operand (10_state.md R30). -/
def firstOperand (c : ControlSignals) : Value :=
  match c.aluSrc1 with
  | .readData1 => .readData1
  | .constantZero => .constantZero
  | .programCounter => .programCounter

/-- The second ALU operand (10_state.md R28). -/
def secondOperand (c : ControlSignals) : Value :=
  if c.immediate then .decodedImmediate else .registerOperand

/-- What the ALU is told to compute (10_state.md R26; 41_table_laws.md R87). -/
def aluValue (c : ControlSignals) : Value :=
  if c.add then .sum (firstOperand c) (secondOperand c) else .aluControlChoice (firstOperand c) (secondOperand c)

/-- The source toReg selects; code 4 selects none (10_state.md R25). -/
def writeBackSource (c : ControlSignals) : Option Value :=
  match c.toReg with
  | .aluResult => some (aluValue c)
  | .memoryData => some .memoryData
  | .pcPlus4 => some .pcPlus4
  | .csrResult => some .csrResult
  | .noWrite => none

/-- What is written back to the destination register, if anything: regWrite decides whether, toReg what
(10_state.md R25, R29; 90_conflicts.md C6). -/
def writeBack (c : ControlSignals) : Option Value :=
  if c.regWrite then writeBackSource c else none

/-- The requests to the data-memory interface (10_state.md R24, R27). -/
def memoryRequests (c : ControlSignals) : List MemoryRequest :=
  (if c.memRead then [.load] else []) ++ (if c.memWrite then [.store] else [])

/-- The requests to the PC-update logic; none at all can be read from the reserved jump code, to which no
consumer meaning may be given (10_state.md R31, R33; 93_implementation_defined.md I1). -/
def pcRequests (c : ControlSignals) : Option (List PcRequest) :=
  let conditional := if c.branch then [PcRequest.conditional] else []
  match c.jump with
  | .noJump => some conditional
  | .reserved => none
  | .jal => some (conditional ++ [.jal])
  | .jalr => some (conditional ++ [.jalr])

/-- What the caller does about an unrecognised opcode: its own policy, and nothing when validInstr = 1
(60_exceptions.md R95, the open parameter ON_INVALID). -/
def onInvalidAction (policy : OnInvalid) (c : ControlSignals) : Option OnInvalid :=
  if c.validInstr then none else some policy

end Sys2Proof.Machine
end

