-- ==== Sys2Proof/Safety.lean ====
section
/-! DEFINITION. What claims about runs of the block are stated in. -/

namespace Sys2Proof.Machine

/-- The outputs are `decode` of the opcode on the input (70_reset_and_hazards.md R102, R106). -/
abbrev State.Settled (s : State) : Prop := s.out = controlSignals s.opcode

/-- No register write, memory request or PC-update control is asserted (60_exceptions.md R94, R98). -/
abbrev Inert (c : ControlSignals) : Prop :=
  c.regWrite = false ∧ c.memWrite = false ∧ c.memRead = false ∧ c.branch = false ∧ c.jump = .noJump

/-- An unrecognised opcode asserts nothing (41_table_laws.md R78). -/
abbrev State.FailSafe (s : State) : Prop := s.out.validInstr = false → Inert s.out

/-- The outputs of `k` fetch cycles from `s`, the first cycle's first; shorter where a step stops. -/
def outputs : Nat → State → List ControlSignals
  | 0, _ => []
  | k + 1, s =>
    match step s with
    | .next t => t.out :: outputs k t
    | .fault _ => []
    | .refused _ => []

end Sys2Proof.Machine
end

