-- ==== Sys2Proof/Certificates/Slice0/Obligations.lean ====
section
/-! DEFINITION. The statements for the provers. Rows, keys and codes are written out here as the spec prints them,
not taken from the model's own tables. -/

open Sys2Proof Sys2Proof.Machine

/-- One row of the decision table: its key and no other opcode selects it, in the port's 7 bits and by match and
mask in an instruction word; its bundle is the tuple the rule prints; in every state its instruction answers a next
state whose outputs are that bundle and which is otherwise unchanged. -/
abbrev Sys2Proof.Statements.RowDriven (i : Instr) (key : Opcode) (row : ControlSignals) (tuple : List Nat) : Prop :=
  (∀ op : Opcode, decodeOpcode op = some i ↔ op = key) ∧
  (∀ w : InstrWord, decodeWord w = .ok i ↔ w &&& 0x0000007F#32 = key.setWidth 32) ∧
  tupleOf row = tuple ∧
  ∀ s : State, exec i s = .next { s with out := row }

/-- From every state the step answers a next state; the opcode of the word presented stands on its input port, and
that opcode and its outputs are related by `P`. The word presented is the first that waits (the model's own list, log 3)
or, where none waits, a free word (log 4). -/
abbrev Sys2Proof.Statements.AtEveryStep (P : Opcode → ControlSignals → Prop) : Prop :=
  ∀ s : State, ∃ t : State, step s = .next t ∧ t.opcode = opcodeField s.nextWord ∧ P t.opcode t.out

/-- The eleven keys (30_encoding.md R51). -/
abbrev Sys2Proof.Statements.keys : List Opcode :=
  [0b0110011#7, 0b0010011#7, 0b0000011#7, 0b0100011#7, 0b1100011#7, 0b0110111#7,
   0b0010111#7, 0b1101111#7, 0b1100111#7, 0b1110011#7, 0b0001111#7]

/-- The default row (40_decode_rows.md R73). -/
abbrev Sys2Proof.Statements.inertRow : ControlSignals :=
  ⟨false, false, false, .noWrite, false, false, false, false, .readData1, .noJump⟩

/-- The decision function as 40_decode_rows.md R61 prints it. -/
abbrev Sys2Proof.Statements.decisionTable (op : Opcode) : ControlSignals :=
  if op = 0b0110011#7 then ⟨true, false, false, .aluResult, false, false, false, true, .readData1, .noJump⟩
  else if op = 0b0010011#7 then ⟨true, false, false, .aluResult, false, false, true, true, .readData1, .noJump⟩
  else if op = 0b0000011#7 then ⟨true, false, true, .memoryData, true, false, true, true, .readData1, .noJump⟩
  else if op = 0b0100011#7 then ⟨true, false, false, .aluResult, true, true, true, false, .readData1, .noJump⟩
  else if op = 0b1100011#7 then ⟨true, true, false, .aluResult, false, false, false, false, .readData1, .noJump⟩
  else if op = 0b0110111#7 then ⟨true, false, false, .aluResult, true, false, true, true, .constantZero, .noJump⟩
  else if op = 0b0010111#7 then ⟨true, false, false, .aluResult, true, false, true, true, .programCounter, .noJump⟩
  else if op = 0b1101111#7 then ⟨true, false, false, .pcPlus4, false, false, false, true, .constantZero, .jal⟩
  else if op = 0b1100111#7 then ⟨true, false, false, .pcPlus4, false, false, true, true, .readData1, .jalr⟩
  else if op = 0b1110011#7 then ⟨true, false, false, .csrResult, false, false, false, false, .readData1, .noJump⟩
  else if op = 0b0001111#7 then ⟨true, false, false, .noWrite, false, false, false, false, .readData1, .noJump⟩
  else ⟨false, false, false, .noWrite, false, false, false, false, .readData1, .noJump⟩

open Sys2Proof.Statements

/-- R_TYPE is selected by its key alone and drives (1, 0, 0, 0, 0, 0, 0, 1, 0, 0) (R62). -/
def Obligations.RTypeDrivesItsRow : Prop :=
  RowDriven .rType 0b0110011#7
    { validInstr := true, branch := false, memRead := false, toReg := .aluResult, add := false,
      memWrite := false, immediate := false, regWrite := true, aluSrc1 := .readData1, jump := .noJump }
    [1, 0, 0, 0, 0, 0, 0, 1, 0, 0]

/-- I_TYPE is selected by its key alone and drives (1, 0, 0, 0, 0, 0, 1, 1, 0, 0) (R63). -/
def Obligations.ITypeDrivesItsRow : Prop :=
  RowDriven .iType 0b0010011#7
    { validInstr := true, branch := false, memRead := false, toReg := .aluResult, add := false,
      memWrite := false, immediate := true, regWrite := true, aluSrc1 := .readData1, jump := .noJump }
    [1, 0, 0, 0, 0, 0, 1, 1, 0, 0]

/-- LOAD is selected by its key alone and drives (1, 0, 1, 1, 1, 0, 1, 1, 0, 0) (R64). -/
def Obligations.LoadDrivesItsRow : Prop :=
  RowDriven .load 0b0000011#7
    { validInstr := true, branch := false, memRead := true, toReg := .memoryData, add := true,
      memWrite := false, immediate := true, regWrite := true, aluSrc1 := .readData1, jump := .noJump }
    [1, 0, 1, 1, 1, 0, 1, 1, 0, 0]

/-- STORE is selected by its key alone and drives (1, 0, 0, 0, 1, 1, 1, 0, 0, 0) (R65). -/
def Obligations.StoreDrivesItsRow : Prop :=
  RowDriven .store 0b0100011#7
    { validInstr := true, branch := false, memRead := false, toReg := .aluResult, add := true,
      memWrite := true, immediate := true, regWrite := false, aluSrc1 := .readData1, jump := .noJump }
    [1, 0, 0, 0, 1, 1, 1, 0, 0, 0]

/-- BRANCH is selected by its key alone and drives (1, 1, 0, 0, 0, 0, 0, 0, 0, 0) (R66). -/
def Obligations.BranchDrivesItsRow : Prop :=
  RowDriven .branch 0b1100011#7
    { validInstr := true, branch := true, memRead := false, toReg := .aluResult, add := false,
      memWrite := false, immediate := false, regWrite := false, aluSrc1 := .readData1, jump := .noJump }
    [1, 1, 0, 0, 0, 0, 0, 0, 0, 0]

/-- LUI is selected by its key alone and drives (1, 0, 0, 0, 1, 0, 1, 1, 1, 0) (R67). -/
def Obligations.LuiDrivesItsRow : Prop :=
  RowDriven .lui 0b0110111#7
    { validInstr := true, branch := false, memRead := false, toReg := .aluResult, add := true,
      memWrite := false, immediate := true, regWrite := true, aluSrc1 := .constantZero, jump := .noJump }
    [1, 0, 0, 0, 1, 0, 1, 1, 1, 0]

/-- AUIPC is selected by its key alone and drives (1, 0, 0, 0, 1, 0, 1, 1, 2, 0) (R68). -/
def Obligations.AuipcDrivesItsRow : Prop :=
  RowDriven .auipc 0b0010111#7
    { validInstr := true, branch := false, memRead := false, toReg := .aluResult, add := true,
      memWrite := false, immediate := true, regWrite := true, aluSrc1 := .programCounter, jump := .noJump }
    [1, 0, 0, 0, 1, 0, 1, 1, 2, 0]

/-- JAL is selected by its key alone and drives (1, 0, 0, 2, 0, 0, 0, 1, 1, 2) (R69). -/
def Obligations.JalDrivesItsRow : Prop :=
  RowDriven .jal 0b1101111#7
    { validInstr := true, branch := false, memRead := false, toReg := .pcPlus4, add := false,
      memWrite := false, immediate := false, regWrite := true, aluSrc1 := .constantZero, jump := .jal }
    [1, 0, 0, 2, 0, 0, 0, 1, 1, 2]

/-- JALR is selected by its key alone and drives (1, 0, 0, 2, 0, 0, 1, 1, 0, 3) (R70). -/
def Obligations.JalrDrivesItsRow : Prop :=
  RowDriven .jalr 0b1100111#7
    { validInstr := true, branch := false, memRead := false, toReg := .pcPlus4, add := false,
      memWrite := false, immediate := true, regWrite := true, aluSrc1 := .readData1, jump := .jalr }
    [1, 0, 0, 2, 0, 0, 1, 1, 0, 3]

/-- CSR_SYSTEM is selected by its key alone and drives (1, 0, 0, 3, 0, 0, 0, 0, 0, 0) (R71). -/
def Obligations.CsrSystemDrivesItsRow : Prop :=
  RowDriven .csrSystem 0b1110011#7
    { validInstr := true, branch := false, memRead := false, toReg := .csrResult, add := false,
      memWrite := false, immediate := false, regWrite := false, aluSrc1 := .readData1, jump := .noJump }
    [1, 0, 0, 3, 0, 0, 0, 0, 0, 0]

/-- FENCE is selected by its key alone and drives (1, 0, 0, 4, 0, 0, 0, 0, 0, 0) (R72). -/
def Obligations.FenceDrivesItsRow : Prop :=
  RowDriven .fence 0b0001111#7
    { validInstr := true, branch := false, memRead := false, toReg := .noWrite, add := false,
      memWrite := false, immediate := false, regWrite := false, aluSrc1 := .readData1, jump := .noJump }
    [1, 0, 0, 4, 0, 0, 0, 0, 0, 0]

/-- An opcode that is no key drives (0,0,0,4,0,0,0,0,0,0) and stands on the input port. MODEL'S CHOICE: that the
word presented is taken off the waiting list and one cycle is counted (DESIGN CHOICE, log 3), and that it is
free where the list is empty (log 4) (40_decode_rows.md R73, 30_encoding.md R53, 10_state.md R20, log 3). -/
def Obligations.UnrecognisedOpcodeDrivesTheInertRow : Prop :=
  ∀ s : State, opcodeField s.nextWord ∉ keys → tupleOf inertRow = [0, 0, 0, 4, 0, 0, 0, 0, 0, 0] ∧
    step s = .next { opcode := opcodeField s.nextWord, out := inertRow, upcoming := s.upcoming.tail,
                     cycle := s.cycle + 1 }

/-- A step answers a next state and nothing else: bits [6:0] of the word presented stand on the input port and the
outputs are the decision table's row of that opcode. MODEL'S CHOICE: that the word is taken off the waiting list
and one cycle is counted (DESIGN CHOICE, log 3), and that it is free where the list is empty (log 4)
(40_decode_rows.md R61, 10_state.md R20, 70_reset_and_hazards.md R105, log 3). -/
def Obligations.StepDrivesTheDecisionTable : Prop :=
  ∀ s : State, step s =
    .next { opcode := opcodeField s.nextWord, out := decisionTable (opcodeField s.nextWord),
            upcoming := s.upcoming.tail, cycle := s.cycle + 1 }

/-- A step whose presented word decodes to i is exec of i with bits [6:0] of that word on the input port. MODEL'S
CHOICE: the waiting list the word is taken off and the counter that goes up by one (DESIGN CHOICE, log 3)
(10_state.md R20, 40_decode_rows.md R61, 70_reset_and_hazards.md R105, log 3). -/
def Obligations.StepRunsTheDecodedInstruction : Prop :=
  ∀ (s : State) (w : InstrWord) (ws : List InstrWord) (i : Instr),
    s.upcoming = w :: ws → decodeWord w = .ok i →
      step s = exec i { s with opcode := opcodeField w, upcoming := ws, cycle := s.cycle + 1 }

/-- With no word waiting, a step decodes the free word of its cycle. MODEL'S CHOICE: the list, the counter (DESIGN
CHOICE, log 3) and the form of the free word (log 4) (70_reset_and_hazards.md R103, log 3, log 4). -/
def Obligations.WithNoWordWaitingTheFreeWordIsPresented : Prop :=
  ∀ s : State, s.upcoming = [] →
    step s =
      match decodeWord (Config.upstreamWord s.cycle) with
      | .ok i => exec i { s with opcode := opcodeField (Config.upstreamWord s.cycle), cycle := s.cycle + 1 }
      | .error _ => execDefault { s with opcode := opcodeField (Config.upstreamWord s.cycle), cycle := s.cycle + 1 }

/-- The word withFetchWord places is the one the very next step runs. MODEL'S CHOICE: placing a word at the head of
those to be presented (DESIGN CHOICE, log 5), the waiting list and the counter (DESIGN CHOICE, log 3)
(10_state.md R20, 70_reset_and_hazards.md R105, log 5, log 3). -/
def Obligations.PlacedWordIsRunByTheNextStep : Prop :=
  ∀ (s : State) (n w : Nat) (i : Instr), decodeTableWord n w = some i →
    step (s.withFetchWord n w) = exec i { s with opcode := i.key, cycle := s.cycle + 1 }

/-- Every step answers a next state whose outputs are one of the twelve tuples (R74). -/
def Obligations.EveryStepDrivesOneOfTwelveRows : Prop :=
  AtEveryStep fun _ out =>
    tupleOf out ∈
      [[1, 0, 0, 0, 0, 0, 0, 1, 0, 0],
       [1, 0, 0, 0, 0, 0, 1, 1, 0, 0],
       [1, 0, 1, 1, 1, 0, 1, 1, 0, 0],
       [1, 0, 0, 0, 1, 1, 1, 0, 0, 0],
       [1, 1, 0, 0, 0, 0, 0, 0, 0, 0],
       [1, 0, 0, 0, 1, 0, 1, 1, 1, 0],
       [1, 0, 0, 0, 1, 0, 1, 1, 2, 0],
       [1, 0, 0, 2, 0, 0, 0, 1, 1, 2],
       [1, 0, 0, 2, 0, 0, 1, 1, 0, 3],
       [1, 0, 0, 3, 0, 0, 0, 0, 0, 0],
       [1, 0, 0, 4, 0, 0, 0, 0, 0, 0],
       [0, 0, 0, 4, 0, 0, 0, 0, 0, 0]]

/-- The frame of every instruction: exec answers a next state with the instruction's own row on the outputs and all
else unchanged, the input port and the two fields of the model's own, the waiting words and the cycle counter
(DESIGN CHOICE, log 3) (10_state.md R14, 20_memory.md R38, 60_exceptions.md R93, log 3). -/
def Obligations.ExecChangesNothingButTheOutputs : Prop :=
  ∀ i : Instr, ∃ row : ControlSignals, ∀ s : State, ∃ t : State, exec i s = .next t ∧ t.out = row ∧
    t.opcode = s.opcode ∧ t.upcoming = s.upcoming ∧ t.cycle = s.cycle

/-- Two words with equal bits [6:0] give the same outputs, whatever the two states were (R75). -/
def Obligations.UpperBitsAndHistoryDoNotReachTheOutputs : Prop :=
  ∀ s s' : State, s.nextWord &&& 0x0000007F#32 = s'.nextWord &&& 0x0000007F#32 →
    ∃ t t' : State, step s = .next t ∧ step s' = .next t' ∧ t.out = t'.out

/-- All seven opcode bits and none of bits [31:7] take part in a match (R50). -/
def Obligations.ExactMatchOnAllSevenBits : Prop :=
  (∀ (w : InstrWord) (i : Instr), decodeWord w = .ok i ↔ opcodeField w = i.key) ∧
  (∀ w w' : InstrWord, (∀ n < 7, w.getLsbD n = w'.getLsbD n) → decodeWord w = decodeWord w') ∧
  (∀ s s' : State, (∀ n < 7, s.nextWord.getLsbD n = s'.nextWord.getLsbD n) →
    ∃ t t' : State, step s = .next t ∧ step s' = .next t' ∧ t.out = t'.out)

/-- No two rows share a key, and an opcode matches one key or none (R76). -/
def Obligations.NoTwoRowsShareAKey : Prop :=
  (∀ i j : Instr, i.key = j.key → i = j) ∧
  ∀ op : Opcode, (keyTable.filter fun entry => entry.1 == op).length = if (decodeOpcode op).isSome then 1 else 0

/-- Outputs with validInstr = 0 are the whole default tuple (R77). -/
def Obligations.InvalidMeansTheWholeInertRow : Prop :=
  AtEveryStep fun _ out => out.validInstr = false → tupleOf out = [0, 0, 0, 4, 0, 0, 0, 0, 0, 0]

/-- With validInstr = 0 neither a register nor the memory is written (R78). -/
def Obligations.InvalidNeverWrites : Prop :=
  AtEveryStep fun _ out => out.validInstr = false → out.regWrite = false ∧ out.memWrite = false ∧ Inert out

/-- validInstr = 1 exactly for the eleven keys, FENCE and CSR_SYSTEM included (R79). -/
def Obligations.ValidExactlyOnTheElevenKeys : Prop :=
  AtEveryStep fun op out =>
    (out.validInstr = true ↔ op ∈ keys) ∧
    (op ∈ [0b0001111#7, 0b1110011#7] → out.regWrite = false ∧ out.memWrite = false)

/-- memRead exactly for LOAD, memWrite exactly for STORE, memory data exactly for LOAD (R80). -/
def Obligations.MemoryRequestsExactlyForLoadAndStore : Prop :=
  AtEveryStep fun op out =>
    (out.memRead = true ↔ op = 0b0000011#7) ∧ (out.memWrite = true ↔ op = 0b0100011#7) ∧
    ¬ (out.memRead = true ∧ out.memWrite = true) ∧ (out.toReg = .memoryData ↔ op = 0b0000011#7)

/-- branch exactly for BRANCH, jump 2 exactly for JAL, jump 3 exactly for JALR, never both (R81). -/
def Obligations.PcControlsExactlyForBranchJalJalr : Prop :=
  AtEveryStep fun op out =>
    (out.branch = true ↔ op = 0b1100011#7) ∧ (jumpCode out.jump = 2 ↔ op = 0b1101111#7) ∧
    (jumpCode out.jump = 3 ↔ op = 0b1100111#7) ∧ (jumpCode out.jump = 0 ↔ op ∉ [0b1101111#7, 0b1100111#7]) ∧
    jumpCode out.jump ≠ 1 ∧ ¬ (out.branch = true ∧ jumpCode out.jump ≠ 0)

/-- regWrite = 1 exactly for R_TYPE, I_TYPE, LOAD, LUI, AUIPC, JAL and JALR (R82). -/
def Obligations.RegWriteExactlyForSevenRows : Prop :=
  AtEveryStep fun op out =>
    out.regWrite = true ↔
      op ∈ [0b0110011#7, 0b0010011#7, 0b0000011#7, 0b0110111#7, 0b0010111#7, 0b1101111#7, 0b1100111#7]

/-- add = 1 exactly for LOAD, STORE, LUI and AUIPC (R83). -/
def Obligations.AddExactlyForFourRows : Prop :=
  AtEveryStep fun op out => out.add = true ↔ op ∈ [0b0000011#7, 0b0100011#7, 0b0110111#7, 0b0010111#7]

/-- immediate = 1 exactly for I_TYPE, LOAD, STORE, LUI, AUIPC and JALR (R84). -/
def Obligations.ImmediateExactlyForSixRows : Prop :=
  AtEveryStep fun op out =>
    out.immediate = true ↔
      op ∈ [0b0010011#7, 0b0000011#7, 0b0100011#7, 0b0110111#7, 0b0010111#7, 0b1100111#7]

/-- The toReg code of every opcode, and 0, 1 or 2 wherever a register is written (R85). -/
def Obligations.ToRegCodeOfEveryOpcode : Prop :=
  AtEveryStep fun op out =>
    (toRegCode out.toReg = 0 ↔
      op ∈ [0b0110011#7, 0b0010011#7, 0b0100011#7, 0b1100011#7, 0b0110111#7, 0b0010111#7]) ∧
    (toRegCode out.toReg = 1 ↔ op = 0b0000011#7) ∧ (toRegCode out.toReg = 2 ↔ op ∈ [0b1101111#7, 0b1100111#7]) ∧
    (toRegCode out.toReg = 3 ↔ op = 0b1110011#7) ∧
    (toRegCode out.toReg = 4 ↔ op = 0b0001111#7 ∨ op ∉ keys) ∧
    (out.regWrite = true → toRegCode out.toReg ∈ [0#3, 1#3, 2#3])

/-- aluSrc1 is 1 exactly for LUI and JAL, 2 exactly for AUIPC, 0 otherwise (R86). -/
def Obligations.AluSrc1CodeOfEveryOpcode : Prop :=
  AtEveryStep fun op out =>
    (aluSrc1Code out.aluSrc1 = 1 ↔ op ∈ [0b0110111#7, 0b1101111#7]) ∧ (aluSrc1Code out.aluSrc1 = 2 ↔ op = 0b0010111#7) ∧
    (aluSrc1Code out.aluSrc1 = 0 ↔ op ∉ [0b0110111#7, 0b1101111#7, 0b0010111#7]) ∧ aluSrc1Code out.aluSrc1 ≠ 3

/-- toReg 5 to 7, aluSrc1 3 and jump 1 are never driven (R59). -/
def Obligations.ReservedCodesAreNeverDriven : Prop :=
  AtEveryStep fun _ out =>
    toRegCode out.toReg ∉ [5#3, 6#3, 7#3] ∧ aluSrc1Code out.aluSrc1 ≠ 3 ∧ jumpCode out.jump ≠ 1 ∧
    out.wellFormed = true

/-- The codes of the selector ports and of a Boolean wire are those of the field tables (10_state.md R25,
10_state.md R30, 10_state.md R31, 10_state.md R32, 10_state.md R33, 00_scope.md R13). -/
def Obligations.SelectorCodesAreTheSpecs : Prop :=
  (toRegCode .aluResult = 0 ∧ toRegCode .memoryData = 1 ∧ toRegCode .pcPlus4 = 2 ∧ toRegCode .csrResult = 3 ∧
    toRegCode .noWrite = 4) ∧
  (aluSrc1Code .readData1 = 0 ∧ aluSrc1Code .constantZero = 1 ∧ aluSrc1Code .programCounter = 2) ∧
  (jumpCode .noJump = 0 ∧ jumpCode .reserved = 1 ∧ jumpCode .jal = 2 ∧ jumpCode .jalr = 3) ∧
  (boolBit true = 1 ∧ boolBit false = 0) ∧
  (∀ c, toRegOfCode c = none ↔ c ∈ [5#3, 6#3, 7#3]) ∧ (∀ c, aluSrc1OfCode c = none ↔ c = 3) ∧
  (∀ x, toRegOfCode (toRegCode x) = some x) ∧ (∀ x, aluSrc1OfCode (aluSrc1Code x) = some x) ∧
  ∀ x, jumpOfCode (jumpCode x) = x

/-- The packed word holds every field at the bits rule R57 gives (R57). -/
def Obligations.PackedWordHoldsEachFieldAtItsBits : Prop :=
  ∀ c : ControlSignals,
    (pack c).getLsbD 13 = c.validInstr ∧ (pack c).getLsbD 12 = c.branch ∧ (pack c).getLsbD 11 = c.memRead ∧
    (pack c).extractLsb' 8 3 = toRegCode c.toReg ∧ (pack c).getLsbD 7 = c.add ∧ (pack c).getLsbD 6 = c.memWrite ∧
    (pack c).getLsbD 5 = c.immediate ∧ (pack c).getLsbD 4 = c.regWrite ∧
    (pack c).extractLsb' 2 2 = aluSrc1Code c.aluSrc1 ∧ (pack c).extractLsb' 0 2 = jumpCode c.jump

/-- Unpacking a ROM word gives a bundle exactly when packing the bundle gives the word (30_encoding.md R57,
30_encoding.md R59, 10_state.md R32). -/
def Obligations.UnpackingInvertsPacking : Prop :=
  (∀ (p : RomWord) (c : ControlSignals), unpack p = some c ↔ pack c = p) ∧
  ∀ p : RomWord, romWordWellFormed p = true ↔ ∃ c : ControlSignals, unpack p = some c ∧ c.wellFormed = true

/-- The 128 ROM entries: eleven packed words at the keys, 0x0400 everywhere else (R58). -/
def Obligations.RomContentsByAddress : Prop :=
  romContents.length = 128 ∧
  ∀ op : Opcode, romRead op =
    if op = 0x33#7 then 0x2010#14
    else if op = 0x13#7 then 0x2030#14
    else if op = 0x03#7 then 0x29B0#14
    else if op = 0x23#7 then 0x20E0#14
    else if op = 0x63#7 then 0x3000#14
    else if op = 0x37#7 then 0x20B4#14
    else if op = 0x17#7 then 0x20B8#14
    else if op = 0x6F#7 then 0x2216#14
    else if op = 0x67#7 then 0x2233#14
    else if op = 0x73#7 then 0x2300#14
    else if op = 0x0F#7 then 0x2400#14
    else 0x0400#14

/-- The ROM form and the matching form drive the same outputs in every step (20_memory.md R35, 30_encoding.md R57,
30_encoding.md R58). -/
def Obligations.RomFormIsTheSameFunction : Prop :=
  AtEveryStep fun op out => unpack (romRead op) = some out ∧ romRead op = pack out

/-- 117 opcodes are no key: 0x00 to 0x7F except the eleven (R52). -/
def Obligations.DefaultSpaceIsThe117OtherOpcodes : Prop :=
  (∀ op : Opcode, decodeOpcode op = none ↔
    op ∉ [0x03#7, 0x0F#7, 0x13#7, 0x17#7, 0x23#7, 0x33#7, 0x37#7, 0x63#7, 0x67#7, 0x6F#7, 0x73#7]) ∧
  ((List.range Config.romEntries).filter fun n => (decodeOpcode (BitVec.ofNat 7 n)).isNone).length =
    Config.defaultEntries ∧ Config.defaultEntries = 117

/-- Every key ends in 0b11, and any other low bits take the default row (R54). -/
def Obligations.LowBitsOtherThan11TakeTheDefaultRow : Prop :=
  (∀ i : Instr, i.key.extractLsb' 0 2 = 0b11#2) ∧
  ∀ s : State, s.nextWord.extractLsb' 0 2 ≠ 0b11#2 → ∃ t : State, step s = .next t ∧ t.out = inertRow

/-- The FENCE row is the default row with validInstr = 1 (20_memory.md R45, 40_decode_rows.md R72). -/
def Obligations.FenceEqualsTheDefaultRowButValid : Prop :=
  ∀ s : State, exec .fence s = .next { s with out := { inertRow with validInstr := true } } ∧
    Inert { inertRow with validInstr := true }

/-- Decoding is the exact inverse of the match and mask encoding, on all 32-bit words. MODEL'S CHOICE: the encoder
writes zeros in the bits the block does not read, as the rows' match values do (DESIGN CHOICE, log 7)
(30_encoding.md R50, 30_encoding.md R51, 40_decode_rows.md R62 to R72, log 7). -/
def Obligations.EncodeAndDecodeAgreeOnEveryWord : Prop :=
  (∀ i : Instr, decodeWord (encode i) = .ok i) ∧
  (∀ (w : InstrWord) (i : Instr), decodeWord w = .ok i ↔ w &&& 0x0000007F#32 = encode i) ∧
  ∀ w : InstrWord, (∀ i : Instr, w &&& 0x0000007F#32 ≠ encode i) ↔
    decodeWord w = .error (.unrecognizedOpcode (opcodeField w))

/-- Four bytes laid out in a byte order decode, under that order, as the word they hold. MODEL'S CHOICE: that
INSTR_BYTE_ORDER is one of two orders, little and big endian, and how each lays the bytes out (PRESUMED, log 8);
R40 and D8 leave the order open and name no value (20_memory.md R40, 92_eei_decisions.md D8, log 8). -/
def Obligations.BytesInEitherOrderDecodeAsTheWord : Prop :=
  (∀ (o : ByteOrder) (w : InstrWord) (rest : List Byte),
    decodeBytes o (bytesOfWord w o ++ rest) = (decodeWord w).map fun i => (i, rest)) ∧
  ∀ (o : ByteOrder) (i : Instr) (rest : List Byte), decodeBytes o (encodeBytes o i ++ rest) = .ok (i, rest)

/-- A number wider than the port or the word is refused, never masked: the spec's decision D7, in the model's form
(DESIGN CHOICE, log 14) (00_scope.md R7, 92_eei_decisions.md D7, log 14). -/
def Obligations.WidthErrorsAreRefusedAndNeverMasked : Prop :=
  (∀ n : Nat, 2 ^ 32 ≤ n → decodeNat n = .error (.tooWide n)) ∧
  (∀ n : Nat, n < 2 ^ 32 → decodeNat n = decodeWord (BitVec.ofNat 32 n)) ∧
  (∀ n : Nat, 2 ^ 7 ≤ n → opcodeOfNat n = .error (.tooWide n)) ∧
  ∀ n : Nat, n < 2 ^ 7 → ∃ op : Opcode, opcodeOfNat n = .ok op ∧ op.toNat = n

/-- One word of every row, written out bit by bit, decodes to that row (95_test_vectors.md section 3, 30_encoding.md
R51). -/
def Obligations.WordsWrittenOutFromTheSpecDecode : Prop :=
  decodeWord 0b00000000001000001000000110110011#32 = .ok .rType ∧
  decodeWord 0b00000000010100000000000010010011#32 = .ok .iType ∧
  decodeWord 0b00000000000000001010000100000011#32 = .ok .load ∧
  decodeWord 0b00000000001000001010001000100011#32 = .ok .store ∧
  decodeWord 0b11111110000000001001111011100011#32 = .ok .branch ∧
  decodeWord 0b00010010001101000101001010110111#32 = .ok .lui ∧
  decodeWord 0b00000000000000000001001100010111#32 = .ok .auipc ∧
  decodeWord 0b00000000100000000000000011101111#32 = .ok .jal ∧
  decodeWord 0b00000000000000001000000001100111#32 = .ok .jalr ∧
  decodeWord 0b00000000000000000000000001110011#32 = .ok .csrSystem ∧
  decodeWord 0b00001111111100000000000000001111#32 = .ok .fence ∧
  decodeWord 0x00000000#32 = .error (.unrecognizedOpcode 0b0000000) ∧
  decodeWord 0xFFFFFFFF#32 = .error (.unrecognizedOpcode 0b1111111)

/-- What every opcode asks of the PC-update logic (R88). -/
def Obligations.PcRequestsOfEveryOpcode : Prop :=
  AtEveryStep fun op out =>
    pcRequests out = some (if op = 0b1100011#7 then [.conditional] else if op = 0b1101111#7 then [.jal]
      else if op = 0b1100111#7 then [.jalr] else []) ∧
    (op ∈ [0b1101111#7, 0b1100111#7] → out.toReg = .pcPlus4 ∧ out.regWrite = true ∧ writeBack out = some .pcPlus4)

/-- LOAD and STORE make the ALU add read-data-1 and the immediate; LOAD writes memory data back, STORE nothing
(41_table_laws.md R89, 20_memory.md R39). -/
def Obligations.LoadsAndStoresAddRegisterAndImmediate : Prop :=
  AtEveryStep fun op out =>
    memoryRequests out = (if op = 0b0000011#7 then [.load] else if op = 0b0100011#7 then [.store] else []) ∧
    (op ∈ [0b0000011#7, 0b0100011#7] → aluValue out = .sum .readData1 .decodedImmediate) ∧
    (op = 0b0000011#7 → writeBack out = some .memoryData) ∧ (op = 0b0100011#7 → writeBack out = none)

/-- LUI writes back 0 + immediate, AUIPC PC + immediate (R90). -/
def Obligations.LuiAndAuipcWriteBackASum : Prop :=
  AtEveryStep fun op out =>
    (op ∈ [0b0110111#7, 0b0010111#7] →
      out.add = true ∧ out.immediate = true ∧ out.toReg = .aluResult ∧ out.regWrite = true) ∧
    (op = 0b0110111#7 → out.aluSrc1 = .constantZero ∧ writeBack out = some (.sum .constantZero .decodedImmediate)) ∧
    (op = 0b0010111#7 →
      out.aluSrc1 = .programCounter ∧ writeBack out = some (.sum .programCounter .decodedImmediate))

/-- R_TYPE and I_TYPE write back what the ALU control chooses on read-data-1 and a register or the immediate (R91). -/
def Obligations.RTypeAndITypeWriteBackTheAluControlsChoice : Prop :=
  AtEveryStep fun op out =>
    (op ∈ [0b0110011#7, 0b0010011#7] →
      out.add = false ∧ out.aluSrc1 = .readData1 ∧ out.toReg = .aluResult ∧ out.regWrite = true) ∧
    (op = 0b0110011#7 → writeBack out = some (.aluControlChoice .readData1 .registerOperand)) ∧
    (op = 0b0010011#7 → writeBack out = some (.aluControlChoice .readData1 .decodedImmediate))

/-- The caller's policy is asked for exactly when the opcode is no key, whichever of the three it is
(60_exceptions.md R95, 92_eei_decisions.md D12). -/
def Obligations.OnlyUnrecognisedOpcodesReachTheCallersPolicy : Prop :=
  ∀ policy : OnInvalid, AtEveryStep fun op out =>
    onInvalidAction policy out = if op ∈ keys then none else some policy

/-- At reset the outputs are decode of the opcode on the input (70_reset_and_hazards.md R102,
70_reset_and_hazards.md R103). -/
def Obligations.ResetIsSettledAndFailSafe : Prop :=
  State.reset.Settled ∧ State.reset.FailSafe ∧ ∀ op : Opcode,
    State.FailSafe { State.reset with opcode := op, out := controlSignals op }

/-- From every state a step leaves outputs that are decode of the input and assert nothing when invalid
(70_reset_and_hazards.md R102, 70_reset_and_hazards.md R106, 60_exceptions.md R94, 41_table_laws.md R78). -/
def Obligations.EveryStepLeavesASettledFailSafeState : Prop :=
  ∀ s : State, ∃ t : State, step s = .next t ∧ t.Settled ∧ t.FailSafe

/-- No run of any length stops, and every settled fail-safe state stays one (60_exceptions.md R93, 40_decode_rows.md
R61, 70_reset_and_hazards.md R102). -/
def Obligations.EveryRunGoesOnAndStaysSettled : Prop :=
  ∀ (k : Nat) (s : State), s.Settled → s.FailSafe →
    ∃ t : State, Host.Core.run Sys2Proof.core k s = .next t ∧ t.Settled ∧ t.FailSafe ∧ (outputs k s).length = k

/-- From any state, the words that wait are decoded word by word, each in its own cycle. MODEL'S CHOICE: the waiting
list, of which exactly the rest is left, and the counter, which has counted the words (DESIGN CHOICE, log 3)
(70_reset_and_hazards.md R105, 70_reset_and_hazards.md R108, 95_test_vectors.md section 3, log 3). -/
def Obligations.EveryPresentedWordIsDecodedInItsOwnCycle : Prop :=
  ∀ (ws rest : List InstrWord) (s : State), s.upcoming = ws ++ rest →
    outputs ws.length s = ws.map (fun w => decisionTable (opcodeField w)) ∧
    ∃ t : State, Host.Core.run Sys2Proof.core ws.length s = .next t ∧ t.upcoming = rest ∧
      t.cycle = s.cycle + ws.length

/-- Two runs whose waiting words (the model's own list, log 3) agree on bits [6:0] drive the same outputs, whatever
came before (30_encoding.md R50, 41_table_laws.md R75, 70_reset_and_hazards.md R108, 10_state.md R14, log 3). -/
def Obligations.OutputsRevealOnlyTheOpcodesPresented : Prop :=
  ∀ s s' : State,
    s.upcoming.map (fun w => w &&& 0x0000007F#32) = s'.upcoming.map (fun w => w &&& 0x0000007F#32) →
      outputs s.upcoming.length s = outputs s'.upcoming.length s'

/-- The block's whole function is the decision table of rule R61 (R61). -/
def Obligations.DecodeFunctionIsTheDecisionTable : Prop :=
  ∀ op : Opcode, controlSignals op = decisionTable op

/-- The default row: selected by every opcode that is no key, driven whole, and no exception (R73). -/
def Obligations.DefaultRowIsDrivenForEveryOtherOpcode : Prop :=
  (∀ op : Opcode, decodeOpcode op = none ↔ op ∉ keys) ∧ (∀ op : Opcode, controlSignals op = inertRow ↔ op ∉ keys) ∧
  tupleOf inertRow = [0, 0, 0, 4, 0, 0, 0, 0, 0, 0] ∧ Inert inertRow ∧
  ∀ s : State, execDefault s = .next { s with out := inertRow }
end

