-- ==== Sys2Proof/Laws/Decode.lean ====
section
/-! SUPPORT. What the decoders can answer, said once. -/

namespace Sys2Proof

theorem decodeOpcode_key (i : Instr) : decodeOpcode i.key = some i := by cases i <;> rfl

/-- The finite fact behind the exact match: the row an opcode selects, if any, has that opcode as its key. -/
theorem decodeOpcode_all_key : ∀ op : Opcode, ((decodeOpcode op).all fun i => i.key == op) = true := by
  decide

/-- A row is selected by its key and by no other opcode. -/
theorem key_of_decodeOpcode {op : Opcode} {i : Instr} (h : decodeOpcode op = some i) : op = i.key := by
  have := decodeOpcode_all_key op
  rw [h] at this
  exact (eq_of_beq this).symm

/-- The mask 0x0000007F keeps exactly the bits below bit 7. -/
theorem matchMask_getLsbD (n : Nat) : matchMask.getLsbD n = decide (n < 7) := by
  by_cases hn : n < 32
  · revert hn; revert n; decide
  · rw [BitVec.getLsbD_of_ge _ _ (by omega)]
    simp only [Bool.false_eq, decide_eq_false_iff_not]
    omega

/-- Cutting out bits [6:0] and masking them say the same of a word. -/
theorem opcodeField_eq_iff_mask (w : InstrWord) (key : Opcode) :
    opcodeField w = key ↔ w &&& matchMask = key.setWidth 32 := by
  constructor
  · rintro rfl
    apply BitVec.eq_of_getLsbD_eq
    intro n hn
    simp only [BitVec.getLsbD_and, BitVec.getLsbD_setWidth, opcodeField, BitVec.getLsbD_extractLsb',
      matchMask_getLsbD, hn, decide_true, Nat.zero_add, Bool.true_and, Bool.and_comm]
  · intro e
    apply BitVec.eq_of_getLsbD_eq
    intro n hn
    have bit := congrArg (fun v => v.getLsbD n) e
    simp only [BitVec.getLsbD_and, BitVec.getLsbD_setWidth, matchMask_getLsbD, hn, decide_true, Bool.and_true,
      show n < 32 by omega, Bool.true_and] at bit
    simpa only [opcodeField, BitVec.getLsbD_extractLsb', hn, decide_true, Nat.zero_add, Bool.true_and] using bit

/-- Four bytes laid out in a byte order and read in the same order give back the word. -/
theorem word_of_its_four_bytes (w : InstrWord) :
    w.extractLsb' 24 8 ++ w.extractLsb' 16 8 ++ w.extractLsb' 8 8 ++ w.extractLsb' 0 8 = w := by
  rw [BitVec.extractLsb'_append_extractLsb'_eq_extractLsb' (by rfl),
    BitVec.extractLsb'_append_extractLsb'_eq_extractLsb' (by rfl),
    BitVec.extractLsb'_append_extractLsb'_eq_extractLsb' (by rfl)]
  simp

/-- A word's row is its opcode field's row. -/
theorem decodeWord_of_some {w : InstrWord} {i : Instr} (h : decodeOpcode (opcodeField w) = some i) :
    decodeWord w = .ok i := by
  simp only [decodeWord, h]

/-- A word whose opcode field is no key is rejected under that field. -/
theorem decodeWord_of_none {w : InstrWord} (h : decodeOpcode (opcodeField w) = none) :
    decodeWord w = .error (.unrecognizedOpcode (opcodeField w)) := by
  simp only [decodeWord, h]

theorem Machine.controlSignals_of_some {op : Opcode} {i : Instr} (h : decodeOpcode op = some i) :
    Machine.controlSignals op = Machine.rowOf i := by
  simp only [Machine.controlSignals, h]

theorem Machine.controlSignals_of_none {op : Opcode} (h : decodeOpcode op = none) :
    Machine.controlSignals op = Machine.defaultRow := by
  simp only [Machine.controlSignals, h]

end Sys2Proof
end

