-- ==== Sys2Proof/Laws/Operands.lean ====
section
/-! SUPPORT. The selector codes and the one-bit wires, read back. -/

namespace Sys2Proof.Machine

@[simp] theorem boolBit_getLsbD_zero (b : Bool) : (boolBit b).getLsbD 0 = b := by cases b <;> rfl

theorem toRegCode_of_toRegOfCode {c : BitVec 3} {x : ToReg} (h : toRegOfCode c = some x) : toRegCode x = c := by
  revert h; revert c; cases x <;> decide

theorem aluSrc1Code_of_aluSrc1OfCode {c : BitVec 2} {x : AluSrc1} (h : aluSrc1OfCode c = some x) :
    aluSrc1Code x = c := by
  revert h; revert c; cases x <;> decide

@[simp] theorem jumpCode_jumpOfCode : ∀ c : BitVec 2, jumpCode (jumpOfCode c) = c := by decide

end Sys2Proof.Machine
end

