-- ==== Sys2Proof/Laws/PerInstr.lean ====
section
/-! SUPPORT. Laws of every instruction as syntax. LowBits: every key has bits [1:0] = 0b11 (30_encoding.md R54). -/

namespace Sys2Proof.Laws.LowBits

/-- Bits [1:0] of a row's instruction word are both 1. -/
def Statement (i : Instr) : Prop := (encode i).extractLsb' 0 2 = 0b11#2

theorem rType : Statement .rType := rfl
theorem iType : Statement .iType := rfl
theorem load : Statement .load := rfl
theorem store : Statement .store := rfl
theorem branch : Statement .branch := rfl
theorem lui : Statement .lui := rfl
theorem auipc : Statement .auipc := rfl
theorem jal : Statement .jal := rfl
theorem jalr : Statement .jalr := rfl
theorem csrSystem : Statement .csrSystem := rfl
theorem fence : Statement .fence := rfl

end Sys2Proof.Laws.LowBits
end

