-- ==== Sys2Proof/Laws/State.lean ====
section
/-! SUPPORT. One lemma per field per state update, so that no later proof unfolds one. -/

namespace Sys2Proof.Machine

variable (s : State) (row : ControlSignals)

@[simp] theorem State.drive_out : (s.drive row).out = row := rfl
@[simp] theorem State.drive_opcode : (s.drive row).opcode = s.opcode := rfl
@[simp] theorem State.drive_upcoming : (s.drive row).upcoming = s.upcoming := rfl
@[simp] theorem State.drive_cycle : (s.drive row).cycle = s.cycle := rfl

@[simp] theorem State.present_out : s.present.out = s.out := rfl
@[simp] theorem State.present_opcode : s.present.opcode = opcodeField s.nextWord := rfl
@[simp] theorem State.present_upcoming : s.present.upcoming = s.upcoming.tail := rfl
@[simp] theorem State.present_cycle : s.present.cycle = s.cycle + 1 := rfl

theorem State.nextWord_of_nil (h : s.upcoming = []) : s.nextWord = Config.upstreamWord s.cycle := by
  simp only [State.nextWord, h]

theorem State.nextWord_of_cons {w : InstrWord} {ws : List InstrWord} (h : s.upcoming = w :: ws) :
    s.nextWord = w := by
  simp only [State.nextWord, h]

theorem State.withFetchWord_of_fits {nbits w : Nat} (h : w < 2 ^ min nbits Config.instrWidth) :
    s.withFetchWord nbits w = { s with upcoming := BitVec.ofNat 32 w :: s.upcoming } :=
  if_pos h

theorem State.withFetchWord_of_not_fits {nbits w : Nat} (h : ¬ w < 2 ^ min nbits Config.instrWidth) :
    s.withFetchWord nbits w = s :=
  if_neg h

end Sys2Proof.Machine
end

