-- ==== Sys2Proof/Laws/Step.lean ====
section
/-! SUPPORT. What an instruction and a step do, said once: later proofs cite these equations and do not unfold
`exec` or `step`. -/

namespace Sys2Proof.Machine

/-- Every meaning drives its row. -/
theorem exec_eq_drive_rowOf (i : Instr) (s : State) : exec i s = .next (s.drive (rowOf i)) := by
  cases i <;> rfl

/-- A step presents a word and drives what the block's whole function gives for its opcode. -/
theorem step_eq_drive_controlSignals (s : State) :
    step s = .next (s.present.drive (controlSignals (opcodeField s.nextWord))) := by
  unfold step
  split <;> rename_i h
  · rw [exec_eq_drive_rowOf, ← controlSignals_of_some h, State.present_opcode]
  · rw [← State.present_opcode, controlSignals_of_none h]; rfl

/-- A run's first step and the rest of it. -/
theorem run_succ_of_step (k : Nat) {s t : State} (h : step s = .next t) :
    Host.Core.run Sys2Proof.core (k + 1) s = Host.Core.run Sys2Proof.core k t := by
  have h' : Sys2Proof.core.step s = .next t := h
  simp only [Host.Core.run, h']

/-- The outputs of a run are its first step's and then the rest's. -/
theorem outputs_succ_of_step (k : Nat) {s t : State} (h : step s = .next t) :
    outputs (k + 1) s = t.out :: outputs k t := by
  simp only [outputs, h]

end Sys2Proof.Machine
end

