-- ==== Sys2Proof/Tests/Slice0.lean ====
section
/-! SUPPORT. Small tests, their expected results from spec/95_test_vectors.md, and a witness for every statement
that has a hypothesis. -/

namespace Sys2Proof.Tests

open Sys2Proof.Machine Sys2Proof.Statements

/-- The state after reset with these words waiting. -/
def presenting (ws : List InstrWord) : State := { State.reset with upcoming := ws }

/-- The tuple after one step on a word, none where the step stops. -/
def tupleAfter (w : InstrWord) : Option (List Nat) :=
  match step (presenting [w]) with
  | .next t => some (tupleOf t.out)
  | .fault _ => none
  | .refused _ => none

/-! Decoding, one word of every row, bits [31:7] from spec/95 section 3 and the opcode in binary. -/

theorem test_decode_rType : decodeWord 0b00000000001000001000000110110011#32 = .ok .rType := by decide
theorem test_decode_iType : decodeWord 0b00000000010100000000000010010011#32 = .ok .iType := by decide
theorem test_decode_load : decodeWord 0b00000000000000001010000100000011#32 = .ok .load := by decide
theorem test_decode_store : decodeWord 0b00000000001000001010001000100011#32 = .ok .store := by decide
theorem test_decode_branch : decodeWord 0b11111110000000001001111011100011#32 = .ok .branch := by decide
theorem test_decode_lui : decodeWord 0b00010010001101000101001010110111#32 = .ok .lui := by decide
theorem test_decode_auipc : decodeWord 0b00000000000000000001001100010111#32 = .ok .auipc := by decide
theorem test_decode_jal : decodeWord 0b00000000100000000000000011101111#32 = .ok .jal := by decide
theorem test_decode_jalr : decodeWord 0b00000000000000001000000001100111#32 = .ok .jalr := by decide
theorem test_decode_csrSystem : decodeWord 0b00110000000000110001001011110011#32 = .ok .csrSystem := by decide
theorem test_decode_fence : decodeWord 0b00001111111100000000000000001111#32 = .ok .fence := by decide

theorem test_decode_rejects_by_name : decodeWord 0x00012087#32 = .error (.unrecognizedOpcode 0b0000111) := by decide
theorem test_decode_bytes_little_endian :
    decodeBytes .littleEndian [0xB3, 0x81, 0x20, 0x00, 0x13] = .ok (.rType, [0x13]) := by decide
theorem test_decode_bytes_big_endian :
    decodeBytes .bigEndian [0x00, 0x20, 0x81, 0xB3] = .ok (.rType, []) := by decide
theorem test_decode_bytes_truncated :
    decodeBytes .bigEndian [0x00, 0x20, 0x81] = .error (.truncated [0x00, 0x20, 0x81]) := by decide
theorem test_decodeTableWord_short_row : decodeTableWord 8 0x6F = some .jal := by decide
theorem test_decodeTableWord_whole_word : decodeTableWord 32 0xFFFFFFB3 = some .rType := by decide
theorem test_decodeTableWord_no_key : decodeTableWord 32 0xFFFFFFFF = none := by decide
theorem test_decodeTableWord_too_wide : decodeTableWord 64 0x100000033 = none := by decide

/-! One step on a word of every row (spec/95 section 3, and 2.7 for the words whose bits [31:7] differ). -/

/-- add x3, x1, x2 -/
theorem test_step_rType :
    tupleAfter 0x002081B3#32 = some [1, 0, 0, 0, 0, 0, 0, 1, 0, 0] := by decide
/-- sub and mul share the row: sub x4, x3, x1 -/
theorem test_step_rType_other_word :
    tupleAfter 0x40118233#32 = some [1, 0, 0, 0, 0, 0, 0, 1, 0, 0] := by decide
/-- addi x1, x0, 5 -/
theorem test_step_iType :
    tupleAfter 0x00500093#32 = some [1, 0, 0, 0, 0, 0, 1, 1, 0, 0] := by decide
/-- 2.7, word B -/
theorem test_step_iType_other_word :
    tupleAfter 0x7FFFF013#32 = some [1, 0, 0, 0, 0, 0, 1, 1, 0, 0] := by decide
/-- lw x2, 0(x1) -/
theorem test_step_load :
    tupleAfter 0x0000A103#32 = some [1, 0, 1, 1, 1, 0, 1, 1, 0, 0] := by decide
/-- lb x3, -1(x1) -/
theorem test_step_load_other_word :
    tupleAfter 0xFFF08183#32 = some [1, 0, 1, 1, 1, 0, 1, 1, 0, 0] := by decide
/-- sw x2, 4(x1) -/
theorem test_step_store :
    tupleAfter 0x0020A223#32 = some [1, 0, 0, 0, 1, 1, 1, 0, 0, 0] := by decide
/-- bne x1, x0, -4 -/
theorem test_step_branch :
    tupleAfter 0xFE009EE3#32 = some [1, 1, 0, 0, 0, 0, 0, 0, 0, 0] := by decide
/-- lui x5, 0x12345 -/
theorem test_step_lui :
    tupleAfter 0x123452B7#32 = some [1, 0, 0, 0, 1, 0, 1, 1, 1, 0] := by decide
/-- auipc x6, 1 -/
theorem test_step_auipc :
    tupleAfter 0x00001317#32 = some [1, 0, 0, 0, 1, 0, 1, 1, 2, 0] := by decide
/-- jal x1, 8 -/
theorem test_step_jal :
    tupleAfter 0x008000EF#32 = some [1, 0, 0, 2, 0, 0, 0, 1, 1, 2] := by decide
/-- jalr x0, 0(x1) -/
theorem test_step_jalr :
    tupleAfter 0x00008067#32 = some [1, 0, 0, 2, 0, 0, 1, 1, 0, 3] := by decide
/-- csrrw x5, mstatus, x6 -/
theorem test_step_csrSystem :
    tupleAfter 0x300312F3#32 = some [1, 0, 0, 3, 0, 0, 0, 0, 0, 0] := by decide
/-- 2.7, word B -/
theorem test_step_csrSystem_other_word :
    tupleAfter 0x30200073#32 = some [1, 0, 0, 3, 0, 0, 0, 0, 0, 0] := by decide
/-- fence -/
theorem test_step_fence :
    tupleAfter 0x0FF0000F#32 = some [1, 0, 0, 4, 0, 0, 0, 0, 0, 0] := by decide
/-- 2.7, word B -/
theorem test_step_fence_other_word :
    tupleAfter 0x8330000F#32 = some [1, 0, 0, 4, 0, 0, 0, 0, 0, 0] := by decide

/-! The default row (spec/95 2.5 and P4). -/

theorem test_step_default_zero : tupleAfter 0x00000000#32 = some [0, 0, 0, 4, 0, 0, 0, 0, 0, 0] := by decide
theorem test_step_default_ones : tupleAfter 0xFFFFFFFF#32 = some [0, 0, 0, 4, 0, 0, 0, 0, 0, 0] := by decide
theorem test_step_default_compressed_nop : tupleAfter 0x00000001#32 = some [0, 0, 0, 4, 0, 0, 0, 0, 0, 0] := by decide
theorem test_step_default_amo : tupleAfter 0x0021A0AF#32 = some [0, 0, 0, 4, 0, 0, 0, 0, 0, 0] := by decide
theorem test_step_default_one_bit_from_jal_and_branch : tupleAfter 0x0000006B#32 = some [0, 0, 0, 4, 0, 0, 0, 0, 0, 0] := by decide
theorem test_step_default_bits_31_7_ignored : tupleAfter 0xFFFFFF80#32 = some [0, 0, 0, 4, 0, 0, 0, 0, 0, 0] := by decide

/-! One-bit neighbours of a key (spec/95 2.6): JALR's flips of bits 2 and 3 are keys, of bit 4 none. -/

theorem test_neighbours_of_jalr :
    [0b1100011#7, 0b1101111#7, 0b1110111#7].map decodeOpcode = [some .branch, some .jal, none] := by decide

/-! Packed words and the ROM (spec/30 R58). -/

theorem test_pack_load : pack loadRow = 0x29B0#14 := by decide
theorem test_pack_default : pack defaultRow = 0x0400#14 := by decide
theorem test_rom_jalr : romRead 0x67 = 0x2233#14 := by decide
theorem test_unpack_outside_domain : unpack 0x0500#14 = none := by decide

/-! Every check of WellFormed.lean refuses an ill-formed term. -/

theorem test_opcodeFits_refuses : opcodeFits 128 = false ∧ opcodeFits 127 = true := by decide
theorem test_wordFits_refuses : wordFits 0x100000000 = false ∧ wordFits 0xFFFFFFFF = true := by decide
theorem test_wellFormed_refuses_reserved_jump :
    ({ defaultRow with jump := .reserved } : ControlSignals).wellFormed = false ∧ defaultRow.wellFormed = true := by
  decide
theorem test_romWordWellFormed_refuses :
    romWordWellFormed 0x0500#14 = false ∧ romWordWellFormed 0x000C#14 = false ∧ romWordWellFormed 0x0001#14 = false ∧
    romWordWellFormed 0x2400#14 = true := by decide

/-! The reserved jump code is given no reading (spec/93 I1). -/

theorem test_reserved_jump_has_no_reading : pcRequests { defaultRow with jump := .reserved } = none := by decide

/-! Reset and placing a word. -/

theorem test_reset_lists_nothing : State.reset.upcoming = [] ∧ State.reset.Settled := by decide
theorem test_withFetchWord_runs_next :
    step (State.reset.withFetchWord 32 0x0020A223) = exec .store { State.reset with opcode := 0b0100011, cycle := 1 } :=
  rfl
theorem test_withFetchWord_short_row :
    step (State.reset.withFetchWord 8 0x0F) = exec .fence { State.reset with opcode := 0b0001111, cycle := 1 } := rfl
theorem test_withFetchWord_places_no_wide_number : State.reset.withFetchWord 32 0x100000033 = State.reset := by decide

/-! Witnesses: for each statement with hypotheses, a concrete state and operands that meet them. -/

theorem witness_UnrecognisedOpcodeDrivesTheInertRow : opcodeField (presenting [0x00012087]).nextWord ∉ keys := by decide
theorem witness_StepRunsTheDecodedInstruction :
    (presenting [0x008000EF, 0x13]).upcoming = 0x008000EF :: [0x13] ∧ decodeWord 0x008000EF = .ok .jal := by decide
theorem witness_WithNoWordWaitingTheFreeWordIsPresented : State.reset.upcoming = [] := by decide
theorem witness_PlacedWordIsRunByTheNextStep :
    decodeTableWord 32 0xFFFFFFB3 = some .rType ∧ decodeTableWord 7 0x73 = some .csrSystem := by decide
theorem witness_UpperBitsAndHistoryDoNotReachTheOutputs :
    (presenting [0x00000013]).nextWord &&& 0x7F#32 =
      (State.nextWord { presenting [0x7FFFF013, 0] with out := loadRow, cycle := 9 }) &&& 0x7F#32 := by decide
theorem witness_ExactMatchOnAllSevenBits :
    0x00000073#32 ≠ 0x30200073#32 ∧ (∀ n < 7, (0x00000073#32).getLsbD n = (0x30200073#32).getLsbD n) ∧
    ∀ n < 7, (presenting [0x00000073]).nextWord.getLsbD n = (presenting [0x30200073]).nextWord.getLsbD n := by decide
theorem witness_NoTwoRowsShareAKey : Instr.key .fence = Instr.key .fence := rfl
theorem witness_LowBitsOtherThan11TakeTheDefaultRow :
    (presenting [0x00000031]).nextWord.extractLsb' 0 2 ≠ 0b11#2 ∧
    (presenting [0x00000032]).nextWord.extractLsb' 0 2 ≠ 0b11#2 ∧
    (presenting [0x00000030]).nextWord.extractLsb' 0 2 ≠ 0b11#2 := by decide
theorem witness_WidthErrorsAreRefusedAndNeverMasked :
    2 ^ 32 ≤ 0x100000000 ∧ 0xFFFFFFFF < 2 ^ 32 ∧ 2 ^ 7 ≤ 128 ∧ 127 < 2 ^ 7 := by decide
theorem witness_ReservedTermUnpacks : unpack 0x0401#14 = some { defaultRow with jump := .reserved } := by decide
theorem witness_EveryRunGoesOnAndStaysSettled : State.reset.Settled ∧ State.reset.FailSafe := by decide
theorem witness_EveryPresentedWordIsDecodedInItsOwnCycle :
    (presenting [0x00300093, 0xFE009EE3, 0x008000EF]).upcoming = [0x00300093, 0xFE009EE3] ++ [0x008000EF] := rfl
theorem witness_OutputsRevealOnlyTheOpcodesPresented :
    (presenting [0x00000073, 0x00000000]).upcoming.map (fun w => w &&& 0x7F#32) =
      (State.upcoming { presenting [0x30200073, 0xFFFFFF80] with cycle := 5 }).map fun w => w &&& 0x7F#32 := by decide

/-- Every opcode stands on the input port after some step: so each clause of the statements of the form
`AtEveryStep` that speaks of one opcode, or of the outputs that opcode drives, is met. -/
theorem witness_AtEveryStep (op : Opcode) :
    ∃ s t : State, step s = .next t ∧ t.opcode = op ∧ t.out = controlSignals op := by
  have hop : opcodeField (op.setWidth 32) = op := by
    apply BitVec.eq_of_getLsbD_eq
    intro n hn
    simp [opcodeField, hn, show n < 32 by omega]
  refine ⟨presenting [op.setWidth 32], _, step_eq_drive_controlSignals _, ?_, ?_⟩
  · exact hop
  · exact congrArg controlSignals hop

/-- Outputs with validInstr = 0 occur (InvalidMeansTheWholeInertRow, InvalidNeverWrites). -/
theorem witness_invalid_outputs :
    ∃ s t : State, step s = .next t ∧ t.out.validInstr = false := ⟨presenting [0], _, rfl, rfl⟩
/-- Outputs with regWrite = 1 occur (ToRegCodeOfEveryOpcode). -/
theorem witness_regWrite_outputs :
    ∃ s t : State, step s = .next t ∧ t.out.regWrite = true := ⟨presenting [0x67], _, rfl, rfl⟩

theorem witness_ValidExactlyOnTheElevenKeys :
    (∃ t : State, step (presenting [0x0F]) = .next t ∧ t.opcode = 0x0F#7) ∧
    (∃ t : State, step (presenting [0x73]) = .next t ∧ t.opcode = 0x73#7) :=
  ⟨⟨_, rfl, rfl⟩, ⟨_, rfl, rfl⟩⟩
theorem witness_PcRequestsOfEveryOpcode :
    (∃ t : State, step (presenting [0x6F]) = .next t ∧ t.opcode = 0x6F#7) ∧
    (∃ t : State, step (presenting [0x67]) = .next t ∧ t.opcode = 0x67#7) :=
  ⟨⟨_, rfl, rfl⟩, ⟨_, rfl, rfl⟩⟩
theorem witness_LoadsAndStoresAddRegisterAndImmediate :
    (∃ t : State, step (presenting [0x03]) = .next t ∧ t.opcode = 0x03#7) ∧
    (∃ t : State, step (presenting [0x23]) = .next t ∧ t.opcode = 0x23#7) :=
  ⟨⟨_, rfl, rfl⟩, ⟨_, rfl, rfl⟩⟩
theorem witness_LuiAndAuipcWriteBackASum :
    (∃ t : State, step (presenting [0x37]) = .next t ∧ t.opcode = 0x37#7) ∧
    (∃ t : State, step (presenting [0x17]) = .next t ∧ t.opcode = 0x17#7) :=
  ⟨⟨_, rfl, rfl⟩, ⟨_, rfl, rfl⟩⟩
theorem witness_RTypeAndITypeWriteBackTheAluControlsChoice :
    (∃ t : State, step (presenting [0x33]) = .next t ∧ t.opcode = 0x33#7) ∧
    (∃ t : State, step (presenting [0x13]) = .next t ∧ t.opcode = 0x13#7) :=
  ⟨⟨_, rfl, rfl⟩, ⟨_, rfl, rfl⟩⟩

end Sys2Proof.Tests
end

/-! Numbers at the boundary: which ones fit, and what the two number decoders answer in either case. -/

namespace Sys2Proof

@[simp] theorem opcodeFits_iff (n : Nat) : opcodeFits n = true ↔ n < 2 ^ 7 := decide_eq_true_iff

@[simp] theorem wordFits_iff (n : Nat) : wordFits n = true ↔ n < 2 ^ 32 := decide_eq_true_iff

theorem opcodeOfNat_of_lt {n : Nat} (h : n < 2 ^ 7) : opcodeOfNat n = .ok (BitVec.ofNat 7 n) :=
  if_pos ((opcodeFits_iff n).2 h)

theorem opcodeOfNat_of_le {n : Nat} (h : 2 ^ 7 ≤ n) : opcodeOfNat n = .error (.tooWide n) :=
  if_neg (mt (opcodeFits_iff n).1 h.not_gt)

theorem decodeNat_of_lt {n : Nat} (h : n < 2 ^ 32) : decodeNat n = decodeWord (BitVec.ofNat 32 n) :=
  if_pos ((wordFits_iff n).2 h)

theorem decodeNat_of_le {n : Nat} (h : 2 ^ 32 ≤ n) : decodeNat n = .error (.tooWide n) :=
  if_neg (mt (wordFits_iff n).1 h.not_gt)

/-- Settles O43: each decoder tests the bound first, and below the bound the bit vector holds the number itself. -/
theorem widthErrorsAreRefusedAndNeverMasked : Obligations.WidthErrorsAreRefusedAndNeverMasked := by
  unfold Obligations.WidthErrorsAreRefusedAndNeverMasked
  refine ⟨fun _ => decodeNat_of_le, fun _ => decodeNat_of_lt, fun _ => opcodeOfNat_of_le, fun n h => ?_⟩
  exact ⟨BitVec.ofNat 7 n, opcodeOfNat_of_lt h, (BitVec.toNat_ofNat n 7).trans (Nat.mod_eq_of_lt h)⟩

end Sys2Proof

/-! The step on a word that decodes: which instruction runs, and in which state. -/

namespace Sys2Proof

/-- A decoded word's opcode field is a key of the table: the converse of `decodeWord_of_some`. -/
theorem decodeOpcode_of_decodeWord {w : InstrWord} {i : Instr} (h : decodeWord w = .ok i) :
    decodeOpcode (opcodeField w) = some i := by
  cases hd : decodeOpcode (opcodeField w) with
  | none => rw [decodeWord_of_none hd] at h; cases h
  | some j => rw [decodeWord_of_some hd] at h; cases h; rfl

theorem opcodeField_of_decodeWord {w : InstrWord} {i : Instr} (h : decodeWord w = .ok i) :
    opcodeField w = i.key :=
  key_of_decodeOpcode (decodeOpcode_of_decodeWord h)

/-- A number that reads as a row fits the bits it is said to have, and is that row's word. -/
theorem decodeWord_of_decodeTableWord {n w : Nat} {i : Instr} (h : decodeTableWord n w = some i) :
    w < 2 ^ min n Config.instrWidth ∧ decodeWord (BitVec.ofNat 32 w) = .ok i := by
  by_cases fits : w < 2 ^ min n Config.instrWidth
  · have lt32 : w < 2 ^ 32 := fits.trans_le (Nat.pow_le_pow_right two_pos (min_le_right n _))
    rw [decodeTableWord, if_pos fits, decodeNat_of_lt lt32] at h
    cases hd : decodeWord (BitVec.ofNat 32 w) with
    | error e => rw [hd] at h; cases h
    | ok j => rw [hd] at h; cases h; exact ⟨fits, rfl⟩
  · rw [decodeTableWord, if_neg fits] at h; cases h

end Sys2Proof

namespace Sys2Proof.Machine

theorem State.present_of_cons {s : State} {w : InstrWord} {ws : List InstrWord} (h : s.upcoming = w :: ws) :
    s.present = { s with opcode := opcodeField w, upcoming := ws, cycle := s.cycle + 1 } := by
  rw [State.present, s.nextWord_of_cons h, h, List.tail_cons]

/-- Whatever word is presented, waiting or free: the step is the meaning of the row it decodes to. -/
theorem step_of_decodeWord {s : State} {i : Instr} (h : decodeWord s.nextWord = .ok i) :
    step s = exec i s.present := by
  rw [step_eq_drive_controlSignals, controlSignals_of_some (decodeOpcode_of_decodeWord h), exec_eq_drive_rowOf]

/-- Settles O14: the waiting word is the one presented, so the step is the meaning of its row. -/
theorem stepRunsTheDecodedInstruction : Obligations.StepRunsTheDecodedInstruction := by
  unfold Obligations.StepRunsTheDecodedInstruction
  intro s w ws i waiting decoded
  rw [← s.nextWord_of_cons waiting] at decoded
  rw [step_of_decodeWord decoded, State.present_of_cons waiting]

/-- Settles O16: a number that decodes fits, so it is placed; the step then runs it (O14) and takes it off again. -/
theorem placedWordIsRunByTheNextStep : Obligations.PlacedWordIsRunByTheNextStep := by
  unfold Obligations.PlacedWordIsRunByTheNextStep
  intro s n w i h
  obtain ⟨fits, decoded⟩ := decodeWord_of_decodeTableWord h
  rw [s.withFetchWord_of_fits fits, stepRunsTheDecodedInstruction _ _ _ _ rfl decoded,
    opcodeField_of_decodeWord decoded]

/-- Settles O18: the meaning of `i` drives `rowOf i` and nothing else. -/
theorem execChangesNothingButTheOutputs : Obligations.ExecChangesNothingButTheOutputs := by
  unfold Obligations.ExecChangesNothingButTheOutputs
  intro i
  refine ⟨rowOf i, fun s => ⟨s.drive (rowOf i), exec_eq_drive_rowOf i s, ?_⟩⟩
  exact ⟨s.drive_out _, s.drive_opcode _, s.drive_upcoming _, s.drive_cycle _⟩

end Sys2Proof.Machine

/-! The selector codes: which name nothing, and that a selector is read back from its own code. -/

namespace Sys2Proof.Machine

theorem toRegOfCode_eq_none_iff : ∀ c : BitVec 3, toRegOfCode c = none ↔ c ∈ [5#3, 6#3, 7#3] := by decide

theorem aluSrc1OfCode_eq_none_iff : ∀ c : BitVec 2, aluSrc1OfCode c = none ↔ c = 3 := by decide

@[simp] theorem toRegOfCode_toRegCode (x : ToReg) : toRegOfCode (toRegCode x) = some x := by cases x <;> rfl

@[simp] theorem aluSrc1OfCode_aluSrc1Code (x : AluSrc1) : aluSrc1OfCode (aluSrc1Code x) = some x := by
  cases x <;> rfl

@[simp] theorem jumpOfCode_jumpCode (x : Jump) : jumpOfCode (jumpCode x) = x := by cases x <;> rfl

/-- Settles O33: the listed codes are the definitions' own; the rest is the reading of a code, either way round. -/
theorem selectorCodesAreTheSpecs : Obligations.SelectorCodesAreTheSpecs := by
  unfold Obligations.SelectorCodesAreTheSpecs
  refine ⟨?toReg, ?aluSrc1, ?jump, ?wire, toRegOfCode_eq_none_iff, aluSrc1OfCode_eq_none_iff,
    toRegOfCode_toRegCode, aluSrc1OfCode_aluSrc1Code, jumpOfCode_jumpCode⟩
  case toReg => exact ⟨rfl, rfl, rfl, rfl, rfl⟩
  case aluSrc1 => exact ⟨rfl, rfl, rfl⟩
  case jump => exact ⟨rfl, rfl, rfl, rfl⟩
  case wire => exact ⟨rfl, rfl⟩

end Sys2Proof.Machine

/-! The packed word read back, and the ROM form as the decision function packed. -/

namespace Sys2Proof.Machine

open Sys2Proof.Statements

/-- What the decision function gives for every opcode holds of the outputs at every step. -/
theorem atEveryStep_of_controlSignals {P : Opcode → ControlSignals → Prop} (h : ∀ op, P op (controlSignals op)) :
    AtEveryStep P :=
  fun s => ⟨_, step_eq_drive_controlSignals s, rfl, h (opcodeField s.nextWord)⟩

section PackedFields

/-- A field read out of a word is a code when its bits are that code's bits. -/
theorem extractLsb'_eq_of_getLsbD {w start len : Nat} {p : BitVec w} {x : BitVec len}
    (h : ∀ n < len, p.getLsbD (start + n) = x.getLsbD n) : p.extractLsb' start len = x := by
  apply BitVec.eq_of_getLsbD_eq
  intro n hn
  rw [BitVec.getLsbD_extractLsb', h n hn, decide_eq_true hn, Bool.true_and]

variable (c : ControlSignals)

/-- The one-bit fields of the packed word (30_encoding.md R57). -/
theorem pack_flags :
    (pack c).getLsbD 13 = c.validInstr ∧ (pack c).getLsbD 12 = c.branch ∧ (pack c).getLsbD 11 = c.memRead ∧
    (pack c).getLsbD 7 = c.add ∧ (pack c).getLsbD 6 = c.memWrite ∧ (pack c).getLsbD 5 = c.immediate ∧
    (pack c).getLsbD 4 = c.regWrite := by
  simp only [pack, BitVec.getLsbD_append]
  refine ⟨?validInstr, ?branch, ?memRead, ?add, ?memWrite, ?immediate, ?regWrite⟩ <;> exact boolBit_getLsbD_zero _

/-- The selector fields of the packed word (30_encoding.md R57). -/
theorem pack_selectors :
    (pack c).extractLsb' 8 3 = toRegCode c.toReg ∧ (pack c).extractLsb' 2 2 = aluSrc1Code c.aluSrc1 ∧
    (pack c).extractLsb' 0 2 = jumpCode c.jump := by
  refine ⟨?toReg, ?aluSrc1, ?jump⟩ <;> refine extractLsb'_eq_of_getLsbD fun n hn => ?_
  all_goals
    simp only [pack, BitVec.getLsbD_append]
    interval_cases n <;> rfl

/-- Packing loses nothing: each selector is read back from its code, each flag from its bit. -/
theorem unpack_pack : unpack (pack c) = some c := by
  simp only [unpack, pack_flags c, pack_selectors c, toRegOfCode_toRegCode, aluSrc1OfCode_aluSrc1Code,
    jumpOfCode_jumpCode]

end PackedFields

/-- The 128 entries as listed (95_test_vectors.md section 4) are the decision function packed: finitely many. -/
theorem romRead_eq_pack_controlSignals : ∀ op : Opcode, romRead op = pack (controlSignals op) := by decide

/-- Settles O37: the entry is the driven row packed, so it unpacks to that row. -/
theorem romFormIsTheSameFunction : Obligations.RomFormIsTheSameFunction := by
  unfold Obligations.RomFormIsTheSameFunction
  refine atEveryStep_of_controlSignals fun op => ⟨?unpacked, romRead_eq_pack_controlSignals op⟩
  rw [romRead_eq_pack_controlSignals, unpack_pack]

/-- Settles O40: FENCE drives `fenceRow`, which is the default row with validInstr set. -/
theorem fenceEqualsTheDefaultRowButValid : Obligations.FenceEqualsTheDefaultRowButValid := by
  unfold Obligations.FenceEqualsTheDefaultRowButValid
  exact fun s => ⟨exec_eq_drive_rowOf .fence s, rfl, rfl, rfl, rfl, rfl⟩

end Sys2Proof.Machine

/-! Bytes in either order, and the row an encoded instruction decodes to. -/

namespace Sys2Proof

@[simp] theorem opcodeField_encode (i : Instr) : opcodeField (encode i) = i.key := by cases i <;> rfl

theorem decodeWord_encode (i : Instr) : decodeWord (encode i) = .ok i :=
  decodeWord_of_some ((congrArg decodeOpcode (opcodeField_encode i)).trans (decodeOpcode_key i))

/-- Four bytes decode as the word they hold, with what comes after them left over. -/
theorem decodeBytes_of_four (o : ByteOrder) (b0 b1 b2 b3 : Byte) (rest : List Byte) :
    decodeBytes o (b0 :: b1 :: b2 :: b3 :: rest) =
      (decodeWord (wordOfBytes o b0 b1 b2 b3)).map fun i => (i, rest) := by
  rw [decodeBytes]
  cases decodeWord (wordOfBytes o b0 b1 b2 b3) <;> rfl

/-- In either order the four bytes laid out hold the word they were cut from. -/
theorem decodeBytes_bytesOfWord_append (o : ByteOrder) (w : InstrWord) (rest : List Byte) :
    decodeBytes o (bytesOfWord w o ++ rest) = (decodeWord w).map fun i => (i, rest) := by
  cases o <;> simp only [bytesOfWord, List.cons_append, List.nil_append, decodeBytes_of_four, wordOfBytes,
    word_of_its_four_bytes]

/-- Settles O42: the bytes hold the word (either order), and an encoded instruction's word decodes to it. -/
theorem bytesInEitherOrderDecodeAsTheWord : Obligations.BytesInEitherOrderDecodeAsTheWord := by
  unfold Obligations.BytesInEitherOrderDecodeAsTheWord
  refine ⟨decodeBytes_bytesOfWord_append, fun o i rest => ?_⟩
  rw [encodeBytes, decodeBytes_bytesOfWord_append, decodeWord_encode, Except.map]

end Sys2Proof

/-! Match and mask: a word decodes by its bits [6:0] alone, and to the row that encodes to them. -/

namespace Sys2Proof

theorem decodeOpcode_eq_some_iff {op : Opcode} {i : Instr} : decodeOpcode op = some i ↔ op = i.key :=
  ⟨key_of_decodeOpcode, fun h => h ▸ decodeOpcode_key i⟩

theorem decodeWord_eq_ok_iff {w : InstrWord} {i : Instr} : decodeWord w = .ok i ↔ opcodeField w = i.key :=
  ⟨opcodeField_of_decodeWord, fun h => decodeWord_of_some (decodeOpcode_eq_some_iff.2 h)⟩

/-- The only rejection of a word, and when it comes. -/
theorem decodeWord_eq_error_iff {w : InstrWord} :
    decodeWord w = .error (.unrecognizedOpcode (opcodeField w)) ↔ ∀ i, decodeWord w ≠ .ok i := by
  cases hd : decodeOpcode (opcodeField w) with
  | none => simp only [decodeWord_of_none hd, ne_eq, reduceCtorEq, not_false_eq_true, implies_true]
  | some j => simp only [decodeWord_of_some hd, reduceCtorEq, false_iff, not_forall, not_not, exists_apply_eq_apply']

theorem decodeWord_congr {w w' : InstrWord} (h : opcodeField w = opcodeField w') : decodeWord w = decodeWord w' := by
  rw [decodeWord, decodeWord, h]

theorem encode_eq_setWidth_key (i : Instr) : encode i = i.key.setWidth 32 := by cases i <;> rfl

theorem and_matchMask_eq_encode_iff {w : InstrWord} {i : Instr} :
    w &&& matchMask = encode i ↔ opcodeField w = i.key := by
  rw [encode_eq_setWidth_key, opcodeField_eq_iff_mask]

/-- Settles O41: decoding to `i` and agreeing with `encode i` under the mask both say that the opcode field is the
key of `i`. -/
theorem encodeAndDecodeAgreeOnEveryWord : Obligations.EncodeAndDecodeAgreeOnEveryWord := by
  unfold Obligations.EncodeAndDecodeAgreeOnEveryWord
  have agree (w : InstrWord) (i : Instr) : decodeWord w = .ok i ↔ w &&& matchMask = encode i :=
    decodeWord_eq_ok_iff.trans and_matchMask_eq_encode_iff.symm
  refine ⟨decodeWord_encode, agree, fun w => ?_⟩
  exact (forall_congr' fun i => not_congr (agree w i).symm).trans decodeWord_eq_error_iff.symm

/-- The opcode field depends on bits [6:0] only (30_encoding.md R49). -/
theorem opcodeField_eq_of_getLsbD {w w' : InstrWord} (h : ∀ n < 7, w.getLsbD n = w'.getLsbD n) :
    opcodeField w = opcodeField w' := by
  apply BitVec.eq_of_getLsbD_eq
  intro n hn
  simp only [opcodeField, BitVec.getLsbD_extractLsb', Nat.zero_add, h n hn]

@[simp] theorem opcodeField_and_matchMask (w : InstrWord) : opcodeField (w &&& matchMask) = opcodeField w := by
  rw [opcodeField_eq_iff_mask, BitVec.and_assoc, BitVec.and_self, ← opcodeField_eq_iff_mask]

end Sys2Proof

namespace Sys2Proof.Machine

/-- What a step drives depends on the opcode field of the word presented and on nothing else of the state. -/
theorem step_out_eq_of_opcodeField_eq {s s' : State} (h : opcodeField s.nextWord = opcodeField s'.nextWord) :
    ∃ t t' : State, step s = .next t ∧ step s' = .next t' ∧ t.out = t'.out :=
  ⟨_, _, step_eq_drive_controlSignals s, step_eq_drive_controlSignals s', congrArg controlSignals h⟩

/-- Settles O20: decoding and the step's outputs are functions of the opcode field. -/
theorem exactMatchOnAllSevenBits : Obligations.ExactMatchOnAllSevenBits := by
  unfold Obligations.ExactMatchOnAllSevenBits
  refine ⟨fun _ _ => decodeWord_eq_ok_iff, ?decode, ?outputs⟩
  case decode => exact fun w w' bits => decodeWord_congr (opcodeField_eq_of_getLsbD bits)
  case outputs => exact fun s s' bits => step_out_eq_of_opcodeField_eq (opcodeField_eq_of_getLsbD bits)

end Sys2Proof.Machine

/-! The codes that stand on the selector ports, and the well-formedness of every row. -/

namespace Sys2Proof.Machine

theorem toRegCode_notMem_reserved (x : ToReg) : toRegCode x ∉ [5#3, 6#3, 7#3] := by
  rw [← toRegOfCode_eq_none_iff, toRegOfCode_toRegCode]
  exact Option.some_ne_none x

theorem aluSrc1Code_ne_three (x : AluSrc1) : aluSrc1Code x ≠ 3 := by
  rw [ne_eq, ← aluSrc1OfCode_eq_none_iff, aluSrc1OfCode_aluSrc1Code]
  exact Option.some_ne_none x

theorem jumpCode_eq_one_iff {x : Jump} : jumpCode x = 1 ↔ x = .reserved := by cases x <;> decide

theorem wellFormed_iff {c : ControlSignals} : c.wellFormed = true ↔ jumpCode c.jump ≠ 1 :=
  decide_eq_true_iff.trans (not_congr jumpCode_eq_one_iff.symm)

theorem rowOf_wellFormed (i : Instr) : (rowOf i).wellFormed = true := by cases i <;> rfl

theorem controlSignals_wellFormed (op : Opcode) : (controlSignals op).wellFormed = true := by
  cases hd : decodeOpcode op with
  | none => rw [controlSignals_of_none hd]; rfl
  | some i => rw [controlSignals_of_some hd]; exact rowOf_wellFormed i

/-- Settles O32: no toReg or aluSrc1 selector has a reserved code, and no row has the reserved jump mode. -/
theorem reservedCodesAreNeverDriven : Obligations.ReservedCodesAreNeverDriven := by
  unfold Obligations.ReservedCodesAreNeverDriven
  refine atEveryStep_of_controlSignals fun op => ⟨toRegCode_notMem_reserved _, aluSrc1Code_ne_three _, ?jump, ?check⟩
  case jump => exact wellFormed_iff.1 (controlSignals_wellFormed op)
  case check => exact controlSignals_wellFormed op

end Sys2Proof.Machine

/-! The packed layout (30_encoding.md R57): which word holds a bundle, and that it is one word exactly. -/

namespace Sys2Proof.Machine

/-- The word's fields at the bits of 30_encoding.md R57 are those of the bundle. -/
structure HoldsFields (p : RomWord) (c : ControlSignals) : Prop where
  validInstr : p.getLsbD 13 = c.validInstr
  branch : p.getLsbD 12 = c.branch
  memRead : p.getLsbD 11 = c.memRead
  toReg : p.extractLsb' 8 3 = toRegCode c.toReg
  add : p.getLsbD 7 = c.add
  memWrite : p.getLsbD 6 = c.memWrite
  immediate : p.getLsbD 5 = c.immediate
  regWrite : p.getLsbD 4 = c.regWrite
  aluSrc1 : p.extractLsb' 2 2 = aluSrc1Code c.aluSrc1
  jump : p.extractLsb' 0 2 = jumpCode c.jump

theorem holdsFields_pack (c : ControlSignals) : HoldsFields (pack c) c := by
  obtain ⟨validInstr, branch, memRead, add, memWrite, immediate, regWrite⟩ := pack_flags c
  obtain ⟨toReg, aluSrc1, jump⟩ := pack_selectors c
  exact ⟨validInstr, branch, memRead, toReg, add, memWrite, immediate, regWrite, aluSrc1, jump⟩

/-- Settles O34: the fields of the packed word, in the tuple's order. -/
theorem packedWordHoldsEachFieldAtItsBits : Obligations.PackedWordHoldsEachFieldAtItsBits := by
  unfold Obligations.PackedWordHoldsEachFieldAtItsBits
  intro c
  have h := holdsFields_pack c
  exact ⟨h.validInstr, h.branch, h.memRead, h.toReg, h.add, h.memWrite, h.immediate, h.regWrite, h.aluSrc1, h.jump⟩

/-- The bits of a field that two words have in common. -/
theorem getLsbD_eq_of_extractLsb'_eq {w start len : Nat} {p q : BitVec w}
    (h : p.extractLsb' start len = q.extractLsb' start len) {n : Nat} (hn : n < len) :
    p.getLsbD (start + n) = q.getLsbD (start + n) := by
  have bit := congrArg (fun v => v.getLsbD n) h
  simpa only [BitVec.getLsbD_extractLsb', hn, decide_true, Bool.true_and] using bit

/-- The fields cover all 14 bits, so a bundle is held by one word only. -/
theorem HoldsFields.word_unique {p q : RomWord} {c : ControlSignals} (hp : HoldsFields p c) (hq : HoldsFields q c) :
    p = q := by
  have toReg {n : Nat} := getLsbD_eq_of_extractLsb'_eq (n := n) (hp.toReg.trans hq.toReg.symm)
  have aluSrc1 {n : Nat} := getLsbD_eq_of_extractLsb'_eq (n := n) (hp.aluSrc1.trans hq.aluSrc1.symm)
  have jump {n : Nat} := getLsbD_eq_of_extractLsb'_eq (n := n) (hp.jump.trans hq.jump.symm)
  apply BitVec.eq_of_getLsbD_eq
  intro n hn
  interval_cases n
  · exact jump (n := 0) two_pos
  · exact jump (n := 1) one_lt_two
  · exact aluSrc1 (n := 0) two_pos
  · exact aluSrc1 (n := 1) one_lt_two
  · exact hp.regWrite.trans hq.regWrite.symm
  · exact hp.immediate.trans hq.immediate.symm
  · exact hp.memWrite.trans hq.memWrite.symm
  · exact hp.add.trans hq.add.symm
  · exact toReg (n := 0) (by decide)
  · exact toReg (n := 1) (by decide)
  · exact toReg (n := 2) (by decide)
  · exact hp.memRead.trans hq.memRead.symm
  · exact hp.branch.trans hq.branch.symm
  · exact hp.validInstr.trans hq.validInstr.symm

theorem holdsFields_of_unpack {p : RomWord} {c : ControlSignals} (h : unpack p = some c) : HoldsFields p c := by
  unfold unpack at h
  split at h
  next x y hx hy =>
    cases h
    exact { validInstr := rfl, branch := rfl, memRead := rfl, add := rfl, memWrite := rfl, immediate := rfl,
            regWrite := rfl, toReg := (toRegCode_of_toRegOfCode hx).symm,
            aluSrc1 := (aluSrc1Code_of_aluSrc1OfCode hy).symm, jump := (jumpCode_jumpOfCode _).symm }
  next => cases h

theorem unpack_eq_some_iff {p : RomWord} {c : ControlSignals} : unpack p = some c ↔ pack c = p := by
  constructor
  · exact fun h => (holdsFields_pack c).word_unique (holdsFields_of_unpack h)
  · rintro rfl
    exact unpack_pack c

theorem toRegOfCode_isSome_iff : ∀ k : BitVec 3, (toRegOfCode k).isSome = true ↔ k ≤ 4#3 := by decide

theorem aluSrc1OfCode_isSome_iff : ∀ k : BitVec 2, (aluSrc1OfCode k).isSome = true ↔ k ≤ 2#2 := by decide

theorem unpack_isSome_iff {p : RomWord} :
    (unpack p).isSome = true ↔ p.extractLsb' 8 3 ≤ 4#3 ∧ p.extractLsb' 2 2 ≤ 2#2 := by
  rw [← toRegOfCode_isSome_iff, ← aluSrc1OfCode_isSome_iff, unpack]
  cases toRegOfCode (p.extractLsb' 8 3) <;> cases aluSrc1OfCode (p.extractLsb' 2 2) <;> simp

/-- The check of a ROM word: it unpacks, and its jump code is not the reserved one (30_encoding.md R59). -/
theorem romWordWellFormed_iff {p : RomWord} :
    romWordWellFormed p = true ↔ (unpack p).isSome = true ∧ p.extractLsb' 0 2 ≠ 1#2 := by
  rw [unpack_isSome_iff]
  simp only [romWordWellFormed, Bool.and_eq_true, decide_eq_true_iff]

/-- Settles O35: a bundle's word is the only one that holds its fields; the check looks at the jump code of the word,
which is that of the bundle. -/
theorem unpackingInvertsPacking : Obligations.UnpackingInvertsPacking := by
  unfold Obligations.UnpackingInvertsPacking
  refine ⟨fun p c => unpack_eq_some_iff, fun p => ?_⟩
  rw [romWordWellFormed_iff, Option.isSome_iff_exists, ← exists_and_right]
  refine exists_congr fun c => and_congr_right fun unpacks => ?_
  rw [wellFormed_iff, (holdsFields_of_unpack unpacks).jump, BitVec.ofNat_eq_ofNat]

end Sys2Proof.Machine

/-! The default space, and the ROM by address. -/

namespace Sys2Proof

/-- The bits [1:0] of a word are those of its opcode field. -/
theorem opcodeField_extractLsb'_low (w : InstrWord) : (opcodeField w).extractLsb' 0 2 = w.extractLsb' 0 2 :=
  Machine.extractLsb'_eq_of_getLsbD fun n hn => by
    simp only [opcodeField, BitVec.getLsbD_extractLsb', Nat.zero_add, hn, show n < 7 by omega, decide_true,
      Bool.true_and]

theorem key_extractLsb'_low (i : Instr) : i.key.extractLsb' 0 2 = 0b11#2 := by cases i <;> rfl

theorem decodeOpcode_eq_none_of_low {w : InstrWord} (h : w.extractLsb' 0 2 ≠ 0b11#2) :
    decodeOpcode (opcodeField w) = none := by
  rw [Option.eq_none_iff_forall_ne_some]
  intro i hi
  rw [← opcodeField_extractLsb'_low, key_of_decodeOpcode hi] at h
  exact h (key_extractLsb'_low i)

/-- Settles O38: finitely many opcodes. -/
theorem defaultSpaceIsThe117OtherOpcodes : Obligations.DefaultSpaceIsThe117OtherOpcodes := by
  unfold Obligations.DefaultSpaceIsThe117OtherOpcodes
  refine ⟨?listed, ?count, rfl⟩
  case listed => decide
  case count => rfl

/-- Settles O44: the opcode bits of each word are read off and compared with a key, or matched by none. -/
theorem wordsWrittenOutFromTheSpecDecode : Obligations.WordsWrittenOutFromTheSpecDecode := by
  unfold Obligations.WordsWrittenOutFromTheSpecDecode
  refine ⟨?rType, ?iType, ?load, ?store, ?branch, ?lui, ?auipc, ?jal, ?jalr, ?csrSystem, ?fence, ?zeros, ?ones⟩
  case zeros => exact decodeWord_of_none rfl
  case ones => exact decodeWord_of_none rfl
  all_goals exact decodeWord_eq_ok_iff.2 rfl

end Sys2Proof

namespace Sys2Proof.Machine

/-- Settles O39: low bits other than 0b11 leave no key to match, so the step drives the default row. -/
theorem lowBitsOtherThan11TakeTheDefaultRow : Obligations.LowBitsOtherThan11TakeTheDefaultRow := by
  unfold Obligations.LowBitsOtherThan11TakeTheDefaultRow
  refine ⟨key_extractLsb'_low, fun s low => ⟨_, step_eq_drive_controlSignals s, ?_⟩⟩
  exact controlSignals_of_none (decodeOpcode_eq_none_of_low low)

/-- Settles O36: the listing against the table of 30_encoding.md R58, address by address. -/
theorem romContentsByAddress : Obligations.RomContentsByAddress := by
  unfold Obligations.RomContentsByAddress
  refine ⟨?entries, ?contents⟩
  case entries => rfl
  case contents => decide

end Sys2Proof.Machine

/-! Runs: the outputs of the cycles in which waiting words are presented. -/

namespace Sys2Proof.Machine

/-- A run drives, cycle by cycle, what the decision function gives for the opcodes of the words that wait. -/
theorem outputs_of_upcoming_append {ws rest : List InstrWord} {s : State} (h : s.upcoming = ws ++ rest) :
    outputs ws.length s = ws.map fun w => controlSignals (opcodeField w) := by
  induction ws generalizing s with
  | nil => rfl
  | cons w ws ih =>
    have rest_waits : (s.present.drive (controlSignals (opcodeField s.nextWord))).upcoming = ws ++ rest := by
      rw [State.drive_upcoming, State.present_upcoming, h, List.cons_append, List.tail_cons]
    rw [List.length_cons, outputs_succ_of_step _ (step_eq_drive_controlSignals s), ih rest_waits, State.drive_out,
      s.nextWord_of_cons h, List.map_cons]

/-- The outputs of a whole waiting list are a function of the list under the mask. -/
theorem outputs_upcoming (s : State) :
    outputs s.upcoming.length s =
      (s.upcoming.map fun w => w &&& matchMask).map fun v => controlSignals (opcodeField v) := by
  simp only [outputs_of_upcoming_append (List.append_nil _).symm, List.map_map, Function.comp_def,
    opcodeField_and_matchMask]

/-- Settles O54: both runs' outputs are the same function of the same masked words. -/
theorem outputsRevealOnlyTheOpcodesPresented : Obligations.OutputsRevealOnlyTheOpcodesPresented := by
  unfold Obligations.OutputsRevealOnlyTheOpcodesPresented
  intro s s' masked
  calc outputs s.upcoming.length s
    _ = (s.upcoming.map fun w => w &&& matchMask).map fun v => controlSignals (opcodeField v) := outputs_upcoming s
    _ = (s'.upcoming.map fun w => w &&& matchMask).map fun v => controlSignals (opcodeField v) :=
      congrArg (List.map fun v => controlSignals (opcodeField v)) masked
    _ = outputs s'.upcoming.length s' := (outputs_upcoming s').symm

end Sys2Proof.Machine

/-! The decision table (40_decode_rows.md R61): the rows with a key, the opcodes with none, and the step on either. -/

namespace Sys2Proof

open Sys2Proof.Statements

/-- An exact match misses precisely when the opcode is none of the table's keys. -/
theorem matchKey_eq_none_iff {op : Opcode} {table : List (Opcode × Instr)} :
    matchKey op table = none ↔ op ∉ table.map Prod.fst := by
  induction table with
  | nil => simp [matchKey]
  | cons entry rest ih =>
    rw [matchKey, List.map_cons, List.mem_cons, not_or, ← ih]
    by_cases hit : op = entry.1 <;> simp [hit]

theorem keyTable_map_fst : keyTable.map Prod.fst = keys := rfl

theorem decodeOpcode_eq_none_iff {op : Opcode} : decodeOpcode op = none ↔ op ∉ keys := by
  rw [decodeOpcode, matchKey_eq_none_iff, keyTable_map_fst]

end Sys2Proof

namespace Sys2Proof.Machine

open Sys2Proof.Statements

theorem rowOf_validInstr (i : Instr) : (rowOf i).validInstr = true := by cases i <;> rfl

/-- The decision function at a key is that key's row. -/
theorem decisionTable_key (i : Instr) : decisionTable i.key = rowOf i := by cases i <;> rfl

/-- The decision function at an opcode that is no key is its last case. -/
theorem decisionTable_of_notMem_keys {op : Opcode} (h : op ∉ keys) : decisionTable op = inertRow := by
  simp only [keys, List.mem_cons, List.not_mem_nil, or_false, not_or] at h
  simp only [decisionTable, h, if_false]

theorem controlSignals_eq_decisionTable (op : Opcode) : controlSignals op = decisionTable op := by
  cases hd : decodeOpcode op with
  | none => rw [controlSignals_of_none hd, decisionTable_of_notMem_keys (decodeOpcode_eq_none_iff.1 hd)]; rfl
  | some i => rw [controlSignals_of_some hd, key_of_decodeOpcode hd, decisionTable_key]

/-- The default row is driven off the keys only: every other row has validInstr set. -/
theorem controlSignals_eq_inertRow_iff {op : Opcode} : controlSignals op = inertRow ↔ op ∉ keys := by
  rw [← decodeOpcode_eq_none_iff]
  cases hd : decodeOpcode op with
  | none => exact iff_of_true (controlSignals_of_none hd) rfl
  | some i =>
    rw [controlSignals_of_some hd]
    refine iff_of_false (fun row => ?_) (Option.some_ne_none i)
    have valid := rowOf_validInstr i
    rw [row] at valid
    cases valid

theorem tupleOf_inertRow : tupleOf inertRow = [0, 0, 0, 4, 0, 0, 0, 0, 0, 0] := rfl

/-- Settles O12: off the keys the block's whole function gives the default row, and the step drives it. -/
theorem unrecognisedOpcodeDrivesTheInertRow : Obligations.UnrecognisedOpcodeDrivesTheInertRow := by
  unfold Obligations.UnrecognisedOpcodeDrivesTheInertRow
  refine fun s noKey => ⟨tupleOf_inertRow, ?_⟩
  rw [step_eq_drive_controlSignals, controlSignals_eq_inertRow_iff.2 noKey]
  rfl

/-- Settles O13: the step drives the block's whole function, which is the decision table. -/
theorem stepDrivesTheDecisionTable : Obligations.StepDrivesTheDecisionTable := by
  unfold Obligations.StepDrivesTheDecisionTable
  intro s
  rw [step_eq_drive_controlSignals, controlSignals_eq_decisionTable]
  rfl

/-- Settles O55: by the opcode's row, or by its having none. -/
theorem decodeFunctionIsTheDecisionTable : Obligations.DecodeFunctionIsTheDecisionTable := by
  unfold Obligations.DecodeFunctionIsTheDecisionTable
  exact controlSignals_eq_decisionTable

/-- Settles O56: no row is selected, and the default row is given, exactly off the keys; its meaning drives it. -/
theorem defaultRowIsDrivenForEveryOtherOpcode : Obligations.DefaultRowIsDrivenForEveryOtherOpcode := by
  unfold Obligations.DefaultRowIsDrivenForEveryOtherOpcode
  refine ⟨fun _ => decodeOpcode_eq_none_iff, fun _ => controlSignals_eq_inertRow_iff, tupleOf_inertRow, ?inert,
    ?driven⟩
  case inert => exact ⟨rfl, rfl, rfl, rfl, rfl⟩
  case driven => exact fun s => rfl

/-- What one row of the table amounts to, for all eleven at once: its key selects it, in the port's bits and under the
mask, and its meaning drives it. Only the tuple it prints as is left to each row. -/
theorem rowDriven (i : Instr) {tuple : List Nat} (printed : tupleOf (rowOf i) = tuple) :
    RowDriven i i.key (rowOf i) tuple :=
  ⟨fun _ => decodeOpcode_eq_some_iff, fun w => decodeWord_eq_ok_iff.trans (opcodeField_eq_iff_mask w i.key), printed,
    exec_eq_drive_rowOf i⟩

/-- Settles O1: R_TYPE, key and row of R62. -/
theorem rTypeDrivesItsRow : Obligations.RTypeDrivesItsRow := rowDriven .rType rfl

/-- Settles O2: I_TYPE, key and row of R63. -/
theorem iTypeDrivesItsRow : Obligations.ITypeDrivesItsRow := rowDriven .iType rfl

/-- Settles O3: LOAD, key and row of R64. -/
theorem loadDrivesItsRow : Obligations.LoadDrivesItsRow := rowDriven .load rfl

/-- Settles O4: STORE, key and row of R65. -/
theorem storeDrivesItsRow : Obligations.StoreDrivesItsRow := rowDriven .store rfl

/-- Settles O5: BRANCH, key and row of R66. -/
theorem branchDrivesItsRow : Obligations.BranchDrivesItsRow := rowDriven .branch rfl

/-- Settles O6: LUI, key and row of R67. -/
theorem luiDrivesItsRow : Obligations.LuiDrivesItsRow := rowDriven .lui rfl

/-- Settles O7: AUIPC, key and row of R68. -/
theorem auipcDrivesItsRow : Obligations.AuipcDrivesItsRow := rowDriven .auipc rfl

/-- Settles O8: JAL, key and row of R69. -/
theorem jalDrivesItsRow : Obligations.JalDrivesItsRow := rowDriven .jal rfl

/-- Settles O9: JALR, key and row of R70. -/
theorem jalrDrivesItsRow : Obligations.JalrDrivesItsRow := rowDriven .jalr rfl

/-- Settles O10: CSR_SYSTEM, key and row of R71. -/
theorem csrSystemDrivesItsRow : Obligations.CsrSystemDrivesItsRow := rowDriven .csrSystem rfl

/-- Settles O11: FENCE, key and row of R72. -/
theorem fenceDrivesItsRow : Obligations.FenceDrivesItsRow := rowDriven .fence rfl

end Sys2Proof.Machine

/-! The laws of the table (41_table_laws.md): a property of the outputs holds at the keys whose rows have it, and off
the keys if the default row has it. -/

namespace Sys2Proof

open Sys2Proof.Statements

theorem key_injective {i j : Instr} (h : i.key = j.key) : i = j := by
  have same := congrArg decodeOpcode h
  rw [decodeOpcode_key, decodeOpcode_key] at same
  exact Option.some.inj same

theorem decodeOpcode_isSome_iff {op : Opcode} : (decodeOpcode op).isSome = true ↔ op ∈ keys := by
  rw [Option.isSome_iff_ne_none, ne_eq, decodeOpcode_eq_none_iff, not_not]

/-- The table's entries with a key are the places of that key in the list of keys. -/
theorem length_keyTable_filter (op : Opcode) :
    (keyTable.filter fun entry => entry.1 == op).length = keys.count op := by
  rw [← List.countP_eq_length_filter, ← keyTable_map_fst, List.count, List.countP_map]
  rfl

/-- Settles O21: a key selects its own row only, and no key is listed twice. -/
theorem noTwoRowsShareAKey : Obligations.NoTwoRowsShareAKey := by
  unfold Obligations.NoTwoRowsShareAKey
  refine ⟨fun _ _ => key_injective, fun op => ?_⟩
  have once : keys.Nodup := by decide
  rw [length_keyTable_filter, once.count]
  simp only [decodeOpcode_isSome_iff]

theorem key_mem_keys (i : Instr) : i.key ∈ keys := by
  rw [← decodeOpcode_isSome_iff, decodeOpcode_key, Option.isSome_some]

theorem mem_keyTable_iff {op : Opcode} {i : Instr} : (op, i) ∈ keyTable ↔ op = i.key := by
  have own_key : ∀ entry ∈ keyTable, entry.1 = entry.2.key := by decide
  constructor
  · exact own_key (op, i)
  · rintro rfl
    cases i <;> decide

end Sys2Proof

namespace Sys2Proof.Machine

open Sys2Proof.Statements

/-- The keys, in the table's order, of the rows that have a property. -/
def keysWhere (p : ControlSignals → Prop) [DecidablePred p] : List Opcode :=
  (keyTable.filter fun entry => p (rowOf entry.2)).map Prod.fst

/-- By rows: what holds of every key with its row, and of every other opcode with the default row, holds of the block's
whole function. -/
theorem controlSignals_by_rows {P : Opcode → ControlSignals → Prop} (keyed : ∀ i, P i.key (rowOf i))
    (other : ∀ op ∉ keys, P op defaultRow) (op : Opcode) : P op (controlSignals op) := by
  cases hd : decodeOpcode op with
  | none => rw [controlSignals_of_none hd]; exact other op (decodeOpcode_eq_none_iff.1 hd)
  | some i => rw [controlSignals_of_some hd, key_of_decodeOpcode hd]; exact keyed i

theorem atEveryStep_by_rows {P : Opcode → ControlSignals → Prop} (keyed : ∀ i, P i.key (rowOf i))
    (other : ∀ op ∉ keys, P op defaultRow) : AtEveryStep P :=
  atEveryStep_of_controlSignals (controlSignals_by_rows keyed other)

section Where

variable (p : ControlSignals → Prop) [DecidablePred p] {op key : Opcode} {ops : List Opcode}

theorem mem_keysWhere : op ∈ keysWhere p ↔ ∃ i : Instr, op = i.key ∧ p (rowOf i) := by
  simp only [keysWhere, List.mem_map, List.mem_filter, decide_eq_true_eq, mem_keyTable_iff, Prod.exists,
    exists_and_right, exists_eq_right]

/-- A property the default row lacks holds exactly on the keys of the rows that have it. -/
theorem controlSignals_iff_mem (listed : keysWhere p = ops) (off : ¬ p defaultRow) :
    p (controlSignals op) ↔ op ∈ ops := by
  rw [← listed, mem_keysWhere]
  refine controlSignals_by_rows (P := fun op c => p c ↔ ∃ i : Instr, op = i.key ∧ p (rowOf i)) ?keyed ?other op
  case keyed =>
    intro i
    constructor
    · exact fun has => ⟨i, rfl, has⟩
    · rintro ⟨j, same, has⟩
      rwa [key_injective same]
  case other =>
    intro op noKey
    refine iff_of_false off ?_
    rintro ⟨i, rfl, _⟩
    exact noKey (key_mem_keys i)

theorem controlSignals_iff_eq (listed : keysWhere p = [key]) (off : ¬ p defaultRow) :
    p (controlSignals op) ↔ op = key :=
  (controlSignals_iff_mem p listed off).trans List.mem_singleton

/-- A property the default row has holds exactly off the keys of the rows that lack it. -/
theorem controlSignals_iff_notMem (listed : keysWhere (fun c => ¬ p c) = ops) (default : p defaultRow) :
    p (controlSignals op) ↔ op ∉ ops := by
  rw [← controlSignals_iff_mem (fun c => ¬ p c) listed (not_not_intro default), not_not]

end Where

/-- Settles O17: each of the eleven rows, and the default row, is one of the twelve tuples. -/
theorem everyStepDrivesOneOfTwelveRows : Obligations.EveryStepDrivesOneOfTwelveRows := by
  unfold Obligations.EveryStepDrivesOneOfTwelveRows
  refine atEveryStep_by_rows ?keyed ?other
  case keyed => intro i; cases i <;> decide
  case other => intro _ _; decide

/-- Settles O19: equal words under the mask have equal opcode fields, and the step drives a function of that field. -/
theorem upperBitsAndHistoryDoNotReachTheOutputs : Obligations.UpperBitsAndHistoryDoNotReachTheOutputs := by
  unfold Obligations.UpperBitsAndHistoryDoNotReachTheOutputs
  intro s s' masked
  have fields : opcodeField (s.nextWord &&& matchMask) = opcodeField (s'.nextWord &&& matchMask) :=
    congrArg opcodeField masked
  rw [opcodeField_and_matchMask, opcodeField_and_matchMask] at fields
  exact step_out_eq_of_opcodeField_eq fields

theorem controlSignals_validInstr_iff {op : Opcode} : (controlSignals op).validInstr = true ↔ op ∈ keys :=
  controlSignals_iff_mem (fun c => c.validInstr = true) rfl nofun

theorem controlSignals_eq_inertRow_of_invalid {op : Opcode} (h : (controlSignals op).validInstr = false) :
    controlSignals op = inertRow := by
  rw [controlSignals_eq_inertRow_iff, ← controlSignals_validInstr_iff, h]
  exact Bool.false_ne_true

/-- Settles O22: only the default row has validInstr = 0. -/
theorem invalidMeansTheWholeInertRow : Obligations.InvalidMeansTheWholeInertRow := by
  unfold Obligations.InvalidMeansTheWholeInertRow
  refine atEveryStep_of_controlSignals fun op invalid => ?_
  rw [controlSignals_eq_inertRow_of_invalid invalid, tupleOf_inertRow]

/-- Settles O23: only the default row has validInstr = 0, and that row asserts nothing. -/
theorem invalidNeverWrites : Obligations.InvalidNeverWrites := by
  unfold Obligations.InvalidNeverWrites
  refine atEveryStep_of_controlSignals fun op invalid => ?_
  rw [controlSignals_eq_inertRow_of_invalid invalid]
  exact ⟨rfl, rfl, rfl, rfl, rfl, rfl, rfl⟩

/-- Settles O27: the rows with regWrite = 1. -/
theorem regWriteExactlyForSevenRows : Obligations.RegWriteExactlyForSevenRows := by
  unfold Obligations.RegWriteExactlyForSevenRows
  exact atEveryStep_of_controlSignals fun _ => controlSignals_iff_mem (fun c => c.regWrite = true) rfl nofun

/-- Settles O28: the rows with add = 1. -/
theorem addExactlyForFourRows : Obligations.AddExactlyForFourRows := by
  unfold Obligations.AddExactlyForFourRows
  exact atEveryStep_of_controlSignals fun _ => controlSignals_iff_mem (fun c => c.add = true) rfl nofun

/-- Settles O29: the rows with immediate = 1. -/
theorem immediateExactlyForSixRows : Obligations.ImmediateExactlyForSixRows := by
  unfold Obligations.ImmediateExactlyForSixRows
  exact atEveryStep_of_controlSignals fun _ => controlSignals_iff_mem (fun c => c.immediate = true) rfl nofun

/-- Settles O24: every row but the default has validInstr = 1; the rows of FENCE and CSR_SYSTEM write nothing. -/
theorem validExactlyOnTheElevenKeys : Obligations.ValidExactlyOnTheElevenKeys := by
  unfold Obligations.ValidExactlyOnTheElevenKeys
  refine atEveryStep_of_controlSignals fun op => ⟨controlSignals_validInstr_iff, ?noWrite⟩
  simp only [List.mem_cons, List.not_mem_nil, or_false]
  rintro (rfl | rfl) <;> exact ⟨rfl, rfl⟩

theorem controlSignals_memRead_iff {op : Opcode} : (controlSignals op).memRead = true ↔ op = 0b0000011#7 :=
  controlSignals_iff_eq (fun c => c.memRead = true) rfl nofun

theorem controlSignals_memWrite_iff {op : Opcode} : (controlSignals op).memWrite = true ↔ op = 0b0100011#7 :=
  controlSignals_iff_eq (fun c => c.memWrite = true) rfl nofun

/-- Settles O25: one row reads and another writes, so none does both. -/
theorem memoryRequestsExactlyForLoadAndStore : Obligations.MemoryRequestsExactlyForLoadAndStore := by
  unfold Obligations.MemoryRequestsExactlyForLoadAndStore
  refine atEveryStep_of_controlSignals fun op =>
    ⟨controlSignals_memRead_iff, controlSignals_memWrite_iff, ?both, ?data⟩
  case both =>
    rintro ⟨reads, writes⟩
    cases (controlSignals_memRead_iff.1 reads).symm.trans (controlSignals_memWrite_iff.1 writes)
  case data => exact controlSignals_iff_eq (fun c => c.toReg = .memoryData) rfl nofun

theorem controlSignals_branch_iff {op : Opcode} : (controlSignals op).branch = true ↔ op = 0b1100011#7 :=
  controlSignals_iff_eq (fun c => c.branch = true) rfl nofun

theorem controlSignals_jumpCode_eq_zero_iff {op : Opcode} :
    jumpCode (controlSignals op).jump = 0 ↔ op ∉ [0b1101111#7, 0b1100111#7] :=
  controlSignals_iff_notMem (fun c => jumpCode c.jump = 0) rfl rfl

/-- Settles O26: the jump codes by row; the one row with branch = 1 has jump code 0. -/
theorem pcControlsExactlyForBranchJalJalr : Obligations.PcControlsExactlyForBranchJalJalr := by
  unfold Obligations.PcControlsExactlyForBranchJalJalr
  refine atEveryStep_of_controlSignals fun op =>
    ⟨controlSignals_branch_iff, ?jal, ?jalr, controlSignals_jumpCode_eq_zero_iff, ?reserved, ?both⟩
  case jal => exact controlSignals_iff_eq (fun c => jumpCode c.jump = 2) rfl nofun
  case jalr => exact controlSignals_iff_eq (fun c => jumpCode c.jump = 3) rfl nofun
  case reserved => exact wellFormed_iff.1 (controlSignals_wellFormed op)
  case both =>
    rintro ⟨branches, jumps⟩
    rw [controlSignals_branch_iff.1 branches] at jumps
    exact jumps rfl

/-- Settles O30: the toReg codes by row; FENCE has code 4 as the default row does; no row with regWrite = 1 has code 3
or 4. -/
theorem toRegCodeOfEveryOpcode : Obligations.ToRegCodeOfEveryOpcode := by
  unfold Obligations.ToRegCodeOfEveryOpcode
  refine atEveryStep_of_controlSignals fun op => ⟨?alu, ?memory, ?pcPlus4, ?csr, ?none, ?written⟩
  case alu => exact controlSignals_iff_mem (fun c => toRegCode c.toReg = 0) rfl nofun
  case memory => exact controlSignals_iff_eq (fun c => toRegCode c.toReg = 1) rfl nofun
  case pcPlus4 => exact controlSignals_iff_mem (fun c => toRegCode c.toReg = 2) rfl nofun
  case csr => exact controlSignals_iff_eq (fun c => toRegCode c.toReg = 3) rfl nofun
  case none =>
    refine controlSignals_by_rows (P := fun op c => toRegCode c.toReg = 4 ↔ op = 0b0001111#7 ∨ op ∉ keys) ?_ ?_ op
    · intro i; cases i <;> decide
    · exact fun op noKey => iff_of_true rfl (.inr noKey)
  case written =>
    refine controlSignals_by_rows (P := fun _ c => c.regWrite = true → toRegCode c.toReg ∈ [0#3, 1#3, 2#3]) ?_ ?_ op
    · intro i; cases i <;> decide
    · exact fun _ _ => nofun

/-- Settles O31: the aluSrc1 codes by row. -/
theorem aluSrc1CodeOfEveryOpcode : Obligations.AluSrc1CodeOfEveryOpcode := by
  unfold Obligations.AluSrc1CodeOfEveryOpcode
  refine atEveryStep_of_controlSignals fun op => ⟨?zero, ?pc, ?readData1, aluSrc1Code_ne_three _⟩
  case zero => exact controlSignals_iff_mem (fun c => aluSrc1Code c.aluSrc1 = 1) rfl nofun
  case pc => exact controlSignals_iff_eq (fun c => aluSrc1Code c.aluSrc1 = 2) rfl nofun
  case readData1 =>
    have tableOrder : aluSrc1Code (controlSignals op).aluSrc1 = 0 ↔ op ∉ [0b0110111#7, 0b0010111#7, 0b1101111#7] :=
      controlSignals_iff_notMem (fun c => aluSrc1Code c.aluSrc1 = 0) rfl rfl
    exact tableOrder.trans (not_congr (List.Perm.mem_iff (.cons _ (.swap _ _ _))))

theorem controlSignals_pcRequests_eq_nil_iff {op : Opcode} :
    pcRequests (controlSignals op) = some [] ↔ op ∉ [0b1100011#7, 0b1101111#7, 0b1100111#7] :=
  controlSignals_iff_notMem (fun c => pcRequests c = some []) rfl rfl

/-- Settles O45: BRANCH, JAL and JALR each make their own request, and no other row makes one. -/
theorem pcRequestsOfEveryOpcode : Obligations.PcRequestsOfEveryOpcode := by
  unfold Obligations.PcRequestsOfEveryOpcode
  refine atEveryStep_of_controlSignals fun op => ⟨?requests, ?link⟩
  case requests =>
    split_ifs with branch jal jalr
    · rw [branch]; rfl
    · rw [jal]; rfl
    · rw [jalr]; rfl
    · rw [controlSignals_pcRequests_eq_nil_iff]
      simp only [List.mem_cons, branch, jal, jalr, List.not_mem_nil, or_self, not_false_eq_true]
  case link =>
    exact (controlSignals_iff_mem
      (fun c => c.toReg = .pcPlus4 ∧ c.regWrite = true ∧ writeBack c = some .pcPlus4) rfl nofun).2

/-- Settles O46: what the rows of LOAD and STORE ask for; the memory requests are read off memRead and memWrite. -/
theorem loadsAndStoresAddRegisterAndImmediate : Obligations.LoadsAndStoresAddRegisterAndImmediate := by
  unfold Obligations.LoadsAndStoresAddRegisterAndImmediate
  refine atEveryStep_of_controlSignals fun op => ⟨?requests, ?address, ?load, ?store⟩
  case requests =>
    simp only [memoryRequests, controlSignals_memRead_iff, controlSignals_memWrite_iff]
    split_ifs with load store
    · cases load.symm.trans store
    · rfl
    · rfl
    · rfl
  case address =>
    exact (controlSignals_iff_mem (fun c => aluValue c = .sum .readData1 .decodedImmediate) rfl nofun).2
  case load => rintro rfl; rfl
  case store => rintro rfl; rfl

/-- Settles O47: the rows that write back a forced sum with the immediate are those of LUI and AUIPC; the first operand
is each row's own. -/
theorem luiAndAuipcWriteBackASum : Obligations.LuiAndAuipcWriteBackASum := by
  unfold Obligations.LuiAndAuipcWriteBackASum
  refine atEveryStep_of_controlSignals fun op => ⟨?driven, ?lui, ?auipc⟩
  case driven =>
    exact (controlSignals_iff_mem
      (fun c => c.add = true ∧ c.immediate = true ∧ c.toReg = .aluResult ∧ c.regWrite = true) rfl nofun).2
  case lui => rintro rfl; exact ⟨rfl, rfl⟩
  case auipc => rintro rfl; exact ⟨rfl, rfl⟩

/-- Settles O48: the rows that write back the ALU control's choice on read-data-1 are those of R_TYPE and I_TYPE; the
second operand is each row's own. -/
theorem rTypeAndITypeWriteBackTheAluControlsChoice : Obligations.RTypeAndITypeWriteBackTheAluControlsChoice := by
  unfold Obligations.RTypeAndITypeWriteBackTheAluControlsChoice
  refine atEveryStep_of_controlSignals fun op => ⟨?driven, ?rType, ?iType⟩
  case driven =>
    exact (controlSignals_iff_mem
      (fun c => c.add = false ∧ c.aluSrc1 = .readData1 ∧ c.toReg = .aluResult ∧ c.regWrite = true) rfl
      (by decide)).2
  case rType => rintro rfl; rfl
  case iType => rintro rfl; rfl

end Sys2Proof.Machine

/-! No exceptions (60_exceptions.md): an unrecognised opcode asserts nothing and no run stops on one; only the caller's
policy tells it from the others. -/

namespace Sys2Proof.Machine

open Sys2Proof.Statements

theorem controlSignals_inert_of_invalid {op : Opcode} (h : (controlSignals op).validInstr = false) :
    Inert (controlSignals op) := by
  rw [controlSignals_eq_inertRow_of_invalid h]
  exact ⟨rfl, rfl, rfl, rfl, rfl⟩

/-- Outputs that are `decode` of the input assert nothing when invalid: of the two invariants, the first is enough. -/
theorem State.failSafe_of_settled {s : State} (settled : s.Settled) : s.FailSafe := by
  intro invalid
  rw [settled] at invalid ⊢
  exact controlSignals_inert_of_invalid invalid

/-- A step goes on from every state, settled or not, to a settled one. -/
theorem exists_settled_step (s : State) : ∃ t : State, step s = .next t ∧ t.Settled :=
  ⟨_, step_eq_drive_controlSignals s, rfl⟩

/-- Settles O52, by induction on the number of steps: each goes on to a settled state and drives one bundle. -/
theorem everyRunGoesOnAndStaysSettled : Obligations.EveryRunGoesOnAndStaysSettled := by
  unfold Obligations.EveryRunGoesOnAndStaysSettled
  intro k
  induction k with
  | zero => exact fun s settled failSafe => ⟨s, rfl, settled, failSafe, rfl⟩
  | succ k ih =>
    intro s _ _
    obtain ⟨t, stepped, settled⟩ := exists_settled_step s
    obtain ⟨u, ran, settledEnd, failSafeEnd, drove⟩ := ih t settled (State.failSafe_of_settled settled)
    refine ⟨u, (run_succ_of_step k stepped).trans ran, settledEnd, failSafeEnd, ?_⟩
    rw [outputs_succ_of_step k stepped, List.length_cons, drove]

/-- Settles O49: the policy applies where validInstr = 0, which is off the keys. -/
theorem onlyUnrecognisedOpcodesReachTheCallersPolicy : Obligations.OnlyUnrecognisedOpcodesReachTheCallersPolicy := by
  unfold Obligations.OnlyUnrecognisedOpcodesReachTheCallersPolicy
  exact fun policy => atEveryStep_of_controlSignals fun _ => if_congr controlSignals_validInstr_iff rfl rfl

end Sys2Proof.Machine

/-! Reset and sequencing (70_reset_and_hazards.md): every state a step or reset leaves is settled and fail-safe, and
each word presented, waiting or free, is decoded in its own cycle. -/

namespace Sys2Proof.Machine

/-- Settles O51: a step goes on to a settled state, and a settled state is fail-safe. -/
theorem everyStepLeavesASettledFailSafeState : Obligations.EveryStepLeavesASettledFailSafeState := by
  unfold Obligations.EveryStepLeavesASettledFailSafeState
  intro s
  obtain ⟨t, stepped, settled⟩ := exists_settled_step s
  exact ⟨t, stepped, settled, State.failSafe_of_settled settled⟩

/-- A step on a waiting word takes that word off the list and counts one cycle. -/
theorem exists_step_of_cons {s : State} {w : InstrWord} {ws : List InstrWord} (h : s.upcoming = w :: ws) :
    ∃ t : State, step s = .next t ∧ t.upcoming = ws ∧ t.cycle = s.cycle + 1 := by
  refine ⟨_, step_eq_drive_controlSignals s, ?_, ?_⟩
  · rw [State.drive_upcoming, State.present_upcoming, h, List.tail_cons]
  · rw [State.drive_cycle, State.present_cycle]

/-- A run of as many steps as `ws` has words takes just those words off and counts a cycle for each. -/
theorem run_of_upcoming_append {ws rest : List InstrWord} {s : State} (h : s.upcoming = ws ++ rest) :
    ∃ t : State, Host.Core.run Sys2Proof.core ws.length s = .next t ∧ t.upcoming = rest ∧
      t.cycle = s.cycle + ws.length := by
  induction ws generalizing s with
  | nil => exact ⟨s, rfl, h, rfl⟩
  | cons w ws ih =>
    obtain ⟨t, stepped, waiting, counted⟩ := exists_step_of_cons h
    obtain ⟨u, ran, left, countedAll⟩ := ih waiting
    refine ⟨u, (run_succ_of_step ws.length stepped).trans ran, left, ?_⟩
    rw [countedAll, counted, List.length_cons]
    omega

/-- Settles O53: the outputs are the decision function's over the waiting words, and the run takes just those off. -/
theorem everyPresentedWordIsDecodedInItsOwnCycle : Obligations.EveryPresentedWordIsDecodedInItsOwnCycle := by
  unfold Obligations.EveryPresentedWordIsDecodedInItsOwnCycle
  intro ws rest s waiting
  refine ⟨?outputs, run_of_upcoming_append waiting⟩
  simp only [outputs_of_upcoming_append waiting, controlSignals_eq_decisionTable]

/-- Presenting the free word: nothing is taken off the empty list. -/
theorem State.present_of_nil {s : State} (h : s.upcoming = []) :
    s.present =
      { s with opcode := opcodeField (Config.upstreamWord s.cycle), cycle := s.cycle + 1 } := by
  rw [State.present, s.nextWord_of_nil h, h, List.tail_nil]

/-- A rejected word's opcode field is no key of the table: the converse of `decodeWord_of_none`. -/
theorem decodeOpcode_of_decodeWord_error {w : InstrWord} {e : DecodeReject} (h : decodeWord w = .error e) :
    decodeOpcode (opcodeField w) = none := by
  cases hd : decodeOpcode (opcodeField w) with
  | none => rfl
  | some i => rw [decodeWord_of_some hd] at h; cases h

/-- Whatever word is presented, waiting or free: where no row decodes it, the step is the default meaning. -/
theorem step_of_decodeWord_error {s : State} {e : DecodeReject} (h : decodeWord s.nextWord = .error e) :
    step s = execDefault s.present := by
  rw [step_eq_drive_controlSignals, controlSignals_of_none (decodeOpcode_of_decodeWord_error h)]
  rfl

/-- Settles O15: the free word is the one presented, and the step is the meaning of its row or the default meaning. -/
theorem withNoWordWaitingTheFreeWordIsPresented : Obligations.WithNoWordWaitingTheFreeWordIsPresented := by
  unfold Obligations.WithNoWordWaitingTheFreeWordIsPresented
  intro s noneWaits
  rw [← State.present_of_nil noneWaits, ← s.nextWord_of_nil noneWaits]
  cases decoded : decodeWord s.nextWord with
  | ok i => exact step_of_decodeWord decoded
  | error e => exact step_of_decodeWord_error decoded

/-- Settles O50: reset is settled by its definition, and so is any other opcode on its input with the outputs that
`decode` gives for it; a settled state is fail-safe. -/
theorem resetIsSettledAndFailSafe : Obligations.ResetIsSettledAndFailSafe := by
  unfold Obligations.ResetIsSettledAndFailSafe
  have settled : State.reset.Settled := rfl
  exact ⟨settled, State.failSafe_of_settled settled, fun op => State.failSafe_of_settled rfl⟩

end Sys2Proof.Machine
